-- ==== Sys2Proof/Word.lean ====
section
/-! DEFINITION. The widths the whole package speaks of: a byte, a slot number, and the largest values the spec names. -/

namespace Sys2Proof

/-- A byte of the counter bus (R182). -/
abbrev Byte := BitVec 8

/-- A slot number, 0 to 7 (00_scope 5.2). -/
abbrev SlotNo := Fin 8

/-- The largest 32-bit unsigned number: the last journal number (R111), the hold of the seconds count (R156). -/
abbrev max32 : Nat := 4294967295

/-- Entry slots in one journal page (R108). -/
abbrev slotsPerPage : Nat := 32

/-- Pages in the journal's store (R108). -/
abbrev pageCount : Nat := 128

/-- Meter records the table can hold (R54). -/
abbrev tableSize : Nat := 16384

/-- Entry slots kept from vends at admission (R120). -/
abbrev admissionFloor : Nat := 32

/-- The largest meter number (R54). -/
abbrev maxMeter : Nat := 99999999999

end Sys2Proof
end

