-- ==== Sys2Proof/Syntax.lean ====
section
/-! DEFINITION. The commands of the part: one constructor of Instr for each row of spec/opcode_table.json.
A request constructor carries the fields of its frame (R189): quantities are numbers, bit fields are bit vectors. -/

namespace Sys2Proof

/-- The frame fields every request has besides its code (R189): terminal tag and request sequence. -/
structure Header where
  tag : BitVec 32
  seq : Byte
  deriving DecidableEq, Repr

/-- Body of a VEND request (R1, R189). -/
structure VendBody where
  meter   : Nat
  tender  : Nat
  kind    : Nat
  receipt : Nat
  deriving DecidableEq, Repr

/-- Body of a BIND request (R143, R189). -/
structure BindBody where
  target : Nat
  tag    : BitVec 32
  cls    : Nat
  perms  : BitVec 8
  lease  : Nat
  deriving DecidableEq, Repr

/-- Body of an ENROL request (R66, R189). -/
structure EnrolBody where
  meter       : Nat
  state       : Nat
  group       : Nat
  revision    : Nat
  schedule    : Nat
  lastSeq     : Nat
  monthTenths : Nat
  fixed       : Nat
  freeTaken   : Nat
  arrears     : Nat
  recovery    : Nat
  deriving DecidableEq, Repr

/-- Body of a METER_UPDATE request (R70, R189); presence is the bit field of R190. -/
structure UpdateBody where
  meter    : Nat
  presence : BitVec 8
  schedule : Nat
  arrears  : Nat
  recovery : Nat
  lastSeq  : Nat
  group    : Nat
  deriving DecidableEq, Repr

/-- One block position of a TARIFF_LOAD (R37, R189). -/
structure BlockPos where
  threshold : Nat
  price     : Nat
  deriving DecidableEq, Repr

/-- Body of a TARIFF_LOAD request (R37, R189). -/
structure TariffBody where
  schedule  : Nat
  count     : Nat
  pos1      : BlockPos
  pos2      : BlockPos
  pos3      : BlockPos
  pos4      : BlockPos
  fixed     : Nat
  allowance : Nat
  cap       : Nat
  maxTender : Nat
  deriving DecidableEq, Repr

/-- Body of a KEY_LOAD request (R82, R189). -/
structure KeyBody where
  group    : Nat
  revision : Nat
  material : BitVec 128
  deriving DecidableEq, Repr

/-- Body of a GRANT request (R99, R189). -/
structure GrantBody where
  number     : Nat
  amount     : BitVec 40
  complement : BitVec 40
  ceiling    : Nat
  expiry     : Nat
  deriving DecidableEq, Repr

/-- The commands. A request constructor is the end (STOP or repeated START, R184) of the open write whose
frame is that request. A completion carries what its verify finds where the spec has a verify (R118, R124). -/
inductive Instr where
  | status (h : Header)
  | meterQuery (h : Header) (meter : Nat)
  | floatQuery (h : Header)
  | vend (h : Header) (b : VendBody)
  | continueVend (h : Header) (vendNo : Nat)
  | abandon (h : Header) (vendNo : Nat)
  | reprint (h : Header) (number : Nat)
  | shiftClose (h : Header)
  | bind (h : Header) (b : BindBody)
  | unbind (h : Header) (target : Nat)
  | meterHold (h : Header) (meter : Nat) (newState : Nat)
  | enrol (h : Header) (b : EnrolBody)
  | retire (h : Header) (meter : Nat)
  | meterUpdate (h : Header) (b : UpdateBody)
  | tariffLoad (h : Header) (b : TariffBody)
  | keyLoad (h : Header) (b : KeyBody)
  | grantOpen (h : Header) (code : BitVec 32) (complement : BitVec 32)
  | grant (h : Header) (b : GrantBody)
  | recall (h : Header) (amount : Nat)
  | clockSet (h : Header) (seconds : Nat) (month : Nat)
  | journalRead (h : Header) (number : Nat) (count : Nat)
  | settle (h : Header) (number : Nat)
  | writeAddressByte (b : Byte)
  | dataByte (b : Byte)
  | emptyWrite
  | badFrame
  | readTransaction (b : Byte)
  | supplyWarning
  | warningClear
  | warmReset (straps : Fin 4)
  | supplyLoss
  | coldStart (straps : Fin 4)
  | recoveryScanBegin
  | secondTick
  | leaseExpiry (k : SlotNo)
  | floatExpiry
  | transformCompletion
  | programCompletion (verified : Bool)
  | voidMarkCompletion
  | eraseCompletion (verified : Bool)
  | wornMarkWriteCompletion
  | openRecordWriteCompletion
  | unitRecordWriteCompletion
  | meterWriteCompletion
  | floatWriteCompletion
  | scheduleWriteCompletion
  | stageWriteCompletion
  | installWriteCompletion
  | settingsWriteCompletion
  | settleHeaderWriteCompletion
  | addressByteForAnotherAddress (b : Byte)
  | acknowledgeFromMaster (ack : Bool)
  | readEnd
  deriving DecidableEq, Repr

/-- The request codes of R189, by name. -/
inductive RequestCode where
  | status | meterQuery | floatQuery | vend | continueVend | abandon | reprint | shiftClose | bind | unbind
  | meterHold | enrol | retire | meterUpdate | tariffLoad | keyLoad | grantOpen | grant | recall | clockSet
  | journalRead | settle
  deriving DecidableEq, Repr

end Sys2Proof
end

