-- ==== Sys2Proof/Decode.lean ====
section
/-! DEFINITION. The request frames of R188 and R189: the check, the widths of each body, the frame of a request and
the request a frame spells. Also decodeTableWord: no row of the opcode table gives bits, so no word spells a command. -/

namespace Sys2Proof

/-- No row of spec/opcode_table.json has a bit pattern. -/
def decodeTableWord (_nbits _w : Nat) : Option Instr := none

/-- A number as `w` bytes, most significant first (00_scope 5.4, R188). -/
def beBytes : Nat → Nat → List Byte
  | 0, _ => []
  | w + 1, n => BitVec.ofNat 8 (n / 256 ^ w) :: beBytes w n

/-- The number that bytes spell, most significant first. -/
def beNat (bs : List Byte) : Nat := bs.foldl (fun a b => a * 256 + b.toNat) 0

/-- One bit of the check register of R188: polynomial x^16 + x^12 + x^5 + 1. -/
def checkBit (c : BitVec 16) : BitVec 16 :=
  if c.msb then (c <<< 1) ^^^ 0x1021#16 else c <<< 1

/-- One byte taken into the check register, most significant bit first (R188). -/
def checkByte (c : BitVec 16) (b : Byte) : BitVec 16 :=
  let c := c ^^^ (b.setWidth 16 <<< 8)
  checkBit (checkBit (checkBit (checkBit (checkBit (checkBit (checkBit (checkBit c)))))))

/-- The 16-bit check of R188 over bytes: initial value all ones, no final inversion. -/
def check16 (bs : List Byte) : BitVec 16 := bs.foldl checkByte 0xFFFF#16

/-- Bytes followed by their check, most significant byte first (R188). -/
def withCheck (bs : List Byte) : List Byte := bs ++ beBytes 2 (check16 bs).toNat

/-- The code byte of a request (R189). -/
def RequestCode.byte : RequestCode → Byte
  | .status => 0x01 | .meterQuery => 0x02 | .floatQuery => 0x03 | .vend => 0x04 | .continueVend => 0x05
  | .abandon => 0x06 | .reprint => 0x07 | .shiftClose => 0x08 | .bind => 0x09 | .unbind => 0x0A
  | .meterHold => 0x0B | .enrol => 0x0C | .retire => 0x0D | .meterUpdate => 0x0E | .tariffLoad => 0x0F
  | .keyLoad => 0x10 | .grantOpen => 0x11 | .grant => 0x12 | .recall => 0x13 | .clockSet => 0x14
  | .journalRead => 0x15 | .settle => 0x16

/-- The request that a code byte names (R189): 0x00 and the codes above 0x16 name none. -/
def RequestCode.ofByte (b : Byte) : Option RequestCode :=
  match b.toNat with
  | 0x01 => some .status | 0x02 => some .meterQuery | 0x03 => some .floatQuery | 0x04 => some .vend
  | 0x05 => some .continueVend | 0x06 => some .abandon | 0x07 => some .reprint | 0x08 => some .shiftClose
  | 0x09 => some .bind | 0x0A => some .unbind | 0x0B => some .meterHold | 0x0C => some .enrol
  | 0x0D => some .retire | 0x0E => some .meterUpdate | 0x0F => some .tariffLoad | 0x10 => some .keyLoad
  | 0x11 => some .grantOpen | 0x12 => some .grant | 0x13 => some .recall | 0x14 => some .clockSet
  | 0x15 => some .journalRead | 0x16 => some .settle
  | _ => none

/-- The widths in bytes of a request's body fields, in order (R189). -/
def RequestCode.widths : RequestCode → List Nat
  | .status => [] | .meterQuery => [5] | .floatQuery => [] | .vend => [5, 3, 1, 4]
  | .continueVend => [4] | .abandon => [4] | .reprint => [4] | .shiftClose => []
  | .bind => [1, 4, 1, 1, 2] | .unbind => [1] | .meterHold => [5, 1]
  | .enrol => [5, 1, 1, 1, 1, 2, 4, 3, 1, 3, 1] | .retire => [5]
  | .meterUpdate => [5, 1, 1, 3, 1, 2, 1]
  | .tariffLoad => [1, 1, 3, 3, 3, 3, 3, 3, 3, 3, 3, 2, 2, 3]
  | .keyLoad => [1, 1, 16] | .grantOpen => [4, 4] | .grant => [4, 5, 5, 5, 4] | .recall => [5]
  | .clockSet => [4, 2] | .journalRead => [4, 1] | .settle => [4]

/-- The request code of a command and its header; none for a command that is no request. -/
def Instr.request : Instr → Option (RequestCode × Header)
  | .status h => some (.status, h)
  | .meterQuery h _ => some (.meterQuery, h)
  | .floatQuery h => some (.floatQuery, h)
  | .vend h _ => some (.vend, h)
  | .continueVend h _ => some (.continueVend, h)
  | .abandon h _ => some (.abandon, h)
  | .reprint h _ => some (.reprint, h)
  | .shiftClose h => some (.shiftClose, h)
  | .bind h _ => some (.bind, h)
  | .unbind h _ => some (.unbind, h)
  | .meterHold h _ _ => some (.meterHold, h)
  | .enrol h _ => some (.enrol, h)
  | .retire h _ => some (.retire, h)
  | .meterUpdate h _ => some (.meterUpdate, h)
  | .tariffLoad h _ => some (.tariffLoad, h)
  | .keyLoad h _ => some (.keyLoad, h)
  | .grantOpen h _ _ => some (.grantOpen, h)
  | .grant h _ => some (.grant, h)
  | .recall h _ => some (.recall, h)
  | .clockSet h _ _ => some (.clockSet, h)
  | .journalRead h _ _ => some (.journalRead, h)
  | .settle h _ => some (.settle, h)
  | .writeAddressByte _ => none
  | .dataByte _ => none
  | .emptyWrite => none
  | .badFrame => none
  | .readTransaction _ => none
  | .supplyWarning => none
  | .warningClear => none
  | .warmReset _ => none
  | .supplyLoss => none
  | .coldStart _ => none
  | .recoveryScanBegin => none
  | .secondTick => none
  | .leaseExpiry _ => none
  | .floatExpiry => none
  | .transformCompletion => none
  | .programCompletion _ => none
  | .voidMarkCompletion => none
  | .eraseCompletion _ => none
  | .wornMarkWriteCompletion => none
  | .openRecordWriteCompletion => none
  | .unitRecordWriteCompletion => none
  | .meterWriteCompletion => none
  | .floatWriteCompletion => none
  | .scheduleWriteCompletion => none
  | .stageWriteCompletion => none
  | .installWriteCompletion => none
  | .settingsWriteCompletion => none
  | .settleHeaderWriteCompletion => none
  | .addressByteForAnotherAddress _ => none
  | .acknowledgeFromMaster _ => none
  | .readEnd => none

/-- The body fields of a request as numbers, in the order of R189; none for a command that is no request. -/
def Instr.fields : Instr → List Nat
  | .status _ => []
  | .meterQuery _ m => [m]
  | .floatQuery _ => []
  | .vend _ b => [b.meter, b.tender, b.kind, b.receipt]
  | .continueVend _ n => [n]
  | .abandon _ n => [n]
  | .reprint _ n => [n]
  | .shiftClose _ => []
  | .bind _ b => [b.target, b.tag.toNat, b.cls, b.perms.toNat, b.lease]
  | .unbind _ t => [t]
  | .meterHold _ m st => [m, st]
  | .enrol _ b => [b.meter, b.state, b.group, b.revision, b.schedule, b.lastSeq, b.monthTenths, b.fixed,
      b.freeTaken, b.arrears, b.recovery]
  | .retire _ m => [m]
  | .meterUpdate _ b => [b.meter, b.presence.toNat, b.schedule, b.arrears, b.recovery, b.lastSeq, b.group]
  | .tariffLoad _ b => [b.schedule, b.count, b.pos1.threshold, b.pos1.price, b.pos2.threshold, b.pos2.price,
      b.pos3.threshold, b.pos3.price, b.pos4.threshold, b.pos4.price, b.fixed, b.allowance, b.cap, b.maxTender]
  | .keyLoad _ b => [b.group, b.revision, b.material.toNat]
  | .grantOpen _ c d => [c.toNat, d.toNat]
  | .grant _ b => [b.number, b.amount.toNat, b.complement.toNat, b.ceiling, b.expiry]
  | .recall _ a => [a]
  | .clockSet _ sec m => [sec, m]
  | .journalRead _ n c => [n, c]
  | .settle _ n => [n]
  | .writeAddressByte _ => []
  | .dataByte _ => []
  | .emptyWrite => []
  | .badFrame => []
  | .readTransaction _ => []
  | .supplyWarning => []
  | .warningClear => []
  | .warmReset _ => []
  | .supplyLoss => []
  | .coldStart _ => []
  | .recoveryScanBegin => []
  | .secondTick => []
  | .leaseExpiry _ => []
  | .floatExpiry => []
  | .transformCompletion => []
  | .programCompletion _ => []
  | .voidMarkCompletion => []
  | .eraseCompletion _ => []
  | .wornMarkWriteCompletion => []
  | .openRecordWriteCompletion => []
  | .unitRecordWriteCompletion => []
  | .meterWriteCompletion => []
  | .floatWriteCompletion => []
  | .scheduleWriteCompletion => []
  | .stageWriteCompletion => []
  | .installWriteCompletion => []
  | .settingsWriteCompletion => []
  | .settleHeaderWriteCompletion => []
  | .addressByteForAnotherAddress _ => []
  | .acknowledgeFromMaster _ => []
  | .readEnd => []

/-- The request with a given code, header and body fields (the inverse of Instr.fields). -/
def Instr.ofFields (c : RequestCode) (h : Header) (fs : List Nat) : Option Instr :=
  match c, fs with
  | .status, [] => some (.status h)
  | .meterQuery, [m] => some (.meterQuery h m)
  | .floatQuery, [] => some (.floatQuery h)
  | .vend, [m, t, k, r] => some (.vend h ⟨m, t, k, r⟩)
  | .continueVend, [n] => some (.continueVend h n)
  | .abandon, [n] => some (.abandon h n)
  | .reprint, [n] => some (.reprint h n)
  | .shiftClose, [] => some (.shiftClose h)
  | .bind, [t, g, c, p, l] => some (.bind h ⟨t, BitVec.ofNat 32 g, c, BitVec.ofNat 8 p, l⟩)
  | .unbind, [t] => some (.unbind h t)
  | .meterHold, [m, st] => some (.meterHold h m st)
  | .enrol, [m, st, g, r, sc, ls, mt, f, ft, a, rc] => some (.enrol h ⟨m, st, g, r, sc, ls, mt, f, ft, a, rc⟩)
  | .retire, [m] => some (.retire h m)
  | .meterUpdate, [m, p, sc, a, rc, ls, g] => some (.meterUpdate h ⟨m, BitVec.ofNat 8 p, sc, a, rc, ls, g⟩)
  | .tariffLoad, [n, c, t1, p1, t2, p2, t3, p3, t4, p4, f, al, cp, mx] =>
      some (.tariffLoad h ⟨n, c, ⟨t1, p1⟩, ⟨t2, p2⟩, ⟨t3, p3⟩, ⟨t4, p4⟩, f, al, cp, mx⟩)
  | .keyLoad, [g, r, m] => some (.keyLoad h ⟨g, r, BitVec.ofNat 128 m⟩)
  | .grantOpen, [c, d] => some (.grantOpen h (BitVec.ofNat 32 c) (BitVec.ofNat 32 d))
  | .grant, [n, a, d, c, e] => some (.grant h ⟨n, BitVec.ofNat 40 a, BitVec.ofNat 40 d, c, e⟩)
  | .recall, [a] => some (.recall h a)
  | .clockSet, [sec, m] => some (.clockSet h sec m)
  | .journalRead, [n, c] => some (.journalRead h n c)
  | .settle, [n] => some (.settle h n)
  | _, _ => none

/-- Body fields laid out in their widths (R189, R190). -/
def joinFields : List Nat → List Nat → List Byte
  | w :: ws, v :: vs => beBytes w v ++ joinFields ws vs
  | _, _ => []

/-- Body bytes cut into fields of the given widths. -/
def splitFields : List Nat → List Byte → List Nat
  | [], _ => []
  | w :: ws, bs => beNat (bs.take w) :: splitFields ws (bs.drop w)

/-- The frame of a request (R189), check included; empty for a command that is no request. -/
def encodeFrame (i : Instr) : List Byte :=
  match i.request with
  | none => []
  | some (c, h) => withCheck (beBytes 4 h.tag.toNat ++ [c.byte, h.seq] ++ joinFields c.widths i.fields)

/-- The frame checks of R184 and the request a frame spells: none when fewer than 8 bytes were taken, the check does
not agree, the code is no request's, or the length is not the code's. -/
def parseFrame (bs : List Byte) : Option Instr :=
  if bs.length < 8 then none
  else
    let front := bs.take (bs.length - 2)
    if bs.drop (bs.length - 2) = beBytes 2 (check16 front).toNat then
      match RequestCode.ofByte (bs.getD 4 0) with
      | none => none
      | some c =>
        if bs.length = 8 + c.widths.sum then
          Instr.ofFields c ⟨BitVec.ofNat 32 (beNat (bs.take 4)), bs.getD 5 0⟩
            (splitFields c.widths (front.drop 6))
        else none
    else none

end Sys2Proof
end

