-- ==== Sys2Proof/Config.lean ====
section
/-! DEFINITION. What the part fixes and the spec does not give (00_scope 4), and the free values of the model.
Every constant here is opaque with no body: nothing can be proved of it beyond its type. -/

namespace Sys2Proof

/-- What a program cut short by a reset leaves of its entry slot (R117, R135, R171). -/
inductive TornProgram where
  | blank | written | halfWritten
  deriving DecidableEq, Repr, Inhabited

/-- What an erase cut short, or one that does not verify, leaves of one entry slot of its page (R135, R171, R174). -/
inductive TornErase where
  | kept | blank | halfWritten
  deriving DecidableEq, Repr, Inhabited

/-- A map of the kind R76 asks for, which shows that its properties can hold together: the key added to the record. -/
def exampleTransform (key : BitVec 64) : Equiv.Perm (BitVec 72) := Equiv.addRight (key.setWidth 72)

/-- Two keys never take a record to the same code word. -/
theorem exampleTransform_dependent (k k' : BitVec 64) (r : BitVec 72) (h : k ≠ k') :
    (exampleTransform k').symm (exampleTransform k r) ≠ r := by
  intro e
  rw [Equiv.symm_apply_eq] at e
  simp only [exampleTransform, Equiv.coe_addRight, BitVec.add_right_inj] at e
  apply h
  have e := congrArg BitVec.toNat e
  simp only [BitVec.toNat_setWidth] at e
  have := k.isLt
  have := k'.isLt
  apply BitVec.eq_of_toNat_eq
  omega

/-- A keyed transform with the properties of R76. It is a function of key and record (deterministic); under one key a
one-to-one map of the 72-bit records; and a code word reversed under another key never gives back its record. The
default fields only show that such a map exists. -/
structure KeyedTransform where
  map       : BitVec 64 → Equiv.Perm (BitVec 72) := exampleTransform
  dependent : ∀ (k k' : BitVec 64) (r : BitVec 72), k ≠ k' → (map k').symm (map k r) ≠ r := by
    exact exampleTransform_dependent
  deriving Inhabited

/-- The part's keyed transform (R76): no construction is known of it. -/
opaque Config.keyedTransform : KeyedTransform

/-- The code word of a plain token record under a meter key (R76). -/
def Config.transform (key : BitVec 64) : Equiv.Perm (BitVec 72) := Config.keyedTransform.map key

/-- The derivation of meter keys of R79: under one key material different meter numbers give different keys. -/
opaque Config.keyDerivation : BitVec 128 → Equiv.Perm (BitVec 64)

/-- The office code strapped into the part at manufacture (R98; 00_scope 4 leaves the strapping out). -/
opaque Config.officeCode : BitVec 32

/-- Free value: what a reset leaves of the program under way. -/
opaque Config.tornProgram : Nat → TornProgram

/-- Free value: whether a void mark cut short by a reset is in place (void) or not (half-written) (R173). -/
opaque Config.tornVoidMark : Nat → Bool

/-- Free value: what a reset leaves of each entry slot of the page under erase. -/
opaque Config.tornErase : Nat → Nat → TornErase

/-- Free value: what an erase that does not verify leaves of each entry slot of its page. -/
opaque Config.failedErase : Nat → Nat → TornErase

/-- Free value: whether a worn-mark write cut short by a reset left the mark (R124, R171). -/
opaque Config.tornWornMark : Nat → Bool

/-- Free value: whether an atomic record, header or stage write cut short by a reset was made whole (R55, R92). -/
opaque Config.tornWrite : Nat → Bool

/-- The meter key of a meter under one group's key material (R79). -/
def Config.meterKey (material : BitVec 128) (meter : Nat) : BitVec 64 :=
  Config.keyDerivation material (BitVec.ofNat 64 meter)

end Sys2Proof
end

