-- ==== Sys2Proof/Machine/State.lean ====
section
/-! DEFINITION. The state of the part, block by block (00_scope 3), as plain data; its value right after reset;
the outcomes of a step. INVENTORY.md lists every field with the rule that names it and its reset value. -/

namespace Sys2Proof.Machine

/-- The part has no fault: a bad request is answered REFUSED (R194), a failing store enters FAILED mode (R126), a loss
of supply is a state (R171). No meaning raises one. Safe: nothing is claimed of a fault. -/
inductive Fault where
  deriving DecidableEq, Repr

/-- Reasons for which the model gives a command no meaning. -/
inductive Refusal where
  /-- Raised by exec's arm of a command that has no meaning yet; safe. No arm raises it now. -/
  | notModelled (mnemonic : String)
  deriving DecidableEq, Repr

/-- Part states (R166). -/
inductive PartState where
  | starting | run | holdup
  deriving DecidableEq, Repr

/-- Kinds of start (R167). -/
inductive StartKind where
  | warm | cold
  deriving DecidableEq, Repr

/-- Slot states (R138). -/
inductive SlotState where
  | unbound | idle | working | held
  deriving DecidableEq, Repr

/-- Classes of a bound slot (R137). -/
inductive SlotClass where
  | settlement | supervisor | cashier
  deriving DecidableEq, Repr

/-- Permission items (R137). -/
inductive PermItem where
  | vend | reprint | shiftClose | bind | meterHold | crossRead | settlement
  deriving DecidableEq, Repr

/-- Results of a response (R194). -/
inductive Result where
  | done | part | ended | refused | notReady
  deriving DecidableEq, Repr

/-- Reasons of a refusal or of an ending (R194). -/
inductive Reason where
  | meterBusy | busyLoading | powerLow | starting
  | badFrame | badField | notBound | tagMismatch | notPermitted | wrongState | unknownMeter | meterBlocked
  | seqExhausted | rekeyLost | freeTaken | amountLimit | tenderLow | floatShort | floatFrozen | journalFull
  | storeFault | clockUnset | tableFull | groupBusy | grantShut | grantCheck | grantOrder | ceiling | clockStep
  | entryGone
  | abandoned | leaseExpired | unbound
  deriving DecidableEq, Repr

/-- Endings of a vend (R32, R177, R190). -/
inductive Ending where
  | complete | partly | interrupted | refused
  deriving DecidableEq, Repr

/-- Kinds of unit, which are the token classes (R8, R73). -/
inductive UnitKind where
  | credit | free | rekeyA | rekeyB
  deriving DecidableEq, Repr

/-- One unit of a plan (R8). -/
structure PlanUnit where
  kind   : UnitKind
  tenths : Nat
  value  : Nat
  deriving DecidableEq, Repr

/-- The vend plan (R41 to R51): summary, admission month, rolled-over flag, unit list. -/
structure Plan where
  tender   : Nat
  fixed    : Nat
  arrears  : Nat
  change   : Nat
  retained : Nat
  tenths   : Nat
  value    : Nat
  month    : Nat
  rolled   : Bool
  units    : List PlanUnit
  deriving DecidableEq, Repr

/-- A token of a batch (R7, R192). -/
structure Token where
  code   : BitVec 72
  kind   : UnitKind
  seq    : Nat
  number : Nat
  deriving DecidableEq, Repr

/-- Phases of a vend (R7, R9). -/
inductive VendPhase where
  | opening | issuing | closing
  deriving DecidableEq, Repr

/-- A slot's vend record (R7). The lease deadline is the slot's compare channel (R18) and is stored there alone. -/
structure Vend where
  receipt       : Nat
  number        : Option Nat
  meter         : Nat
  group         : Nat
  schedule      : Nat
  plan          : Plan
  phase         : VendPhase
  openQueued    : Bool
  issued        : Nat
  batch         : List Token
  share         : Nat
  pendingEnding : Option Reason
  ending        : Option (Ending × Option Reason)
  deriving DecidableEq, Repr

/-- A slot's last ending (R32). -/
structure LastEnding where
  number      : Option Nat
  ending      : Ending
  reason      : Option Reason
  issued      : Nat
  undelivered : Nat
  deriving DecidableEq, Repr

/-- Till totals (R150). -/
structure Till where
  closed      : Nat
  tender      : Nat
  change      : Nat
  undelivered : Nat
  deriving DecidableEq, Repr

/-- Unbound notice (R139): code byte and sequence of the refused write, reason BAD_FRAME or NOT_BOUND. -/
structure Notice where
  code   : Byte
  seq    : Byte
  reason : Reason
  deriving DecidableEq, Repr

/-- A slot's pending change (R136). -/
inductive PendingChange where
  | bindBy (j : SlotNo)
  | unbindBy (j : SlotNo)
  deriving DecidableEq, Repr

/-- States of a meter record (R54). -/
inductive MeterState where
  | active | blocked
  deriving DecidableEq, Repr

/-- A meter record (R54). -/
structure MeterRecord where
  number      : Nat
  state       : MeterState
  group       : Nat
  revision    : Nat
  schedule    : Nat
  lastSeq     : Nat
  monthStamp  : Nat
  monthTenths : Nat
  fixed       : Nat
  freeTaken   : Bool
  arrears     : Nat
  recovery    : Nat
  applied     : Nat
  deriving DecidableEq, Repr

/-- The key move a METER_UPDATE entry carries: group, its current revision, the sequence floor (R71). -/
structure KeyMove where
  group    : Nat
  revision : Nat
  floor    : Nat
  deriving DecidableEq, Repr

/-- The resulting values a METER_UPDATE entry carries (R71). -/
structure UpdateValues where
  schedule : Option Nat
  arrears  : Option Nat
  recovery : Option Nat
  lastSeq  : Option Nat
  move     : Option KeyMove
  deriving DecidableEq, Repr

/-- What a VEND_OPEN entry carries (R12). -/
structure OpenEntry where
  meter    : Nat
  tender   : Nat
  fixed    : Nat
  arrears  : Nat
  change   : Nat
  retained : Nat
  tenths   : Nat
  value    : Nat
  planned  : Nat
  month    : Nat
  deriving DecidableEq, Repr

/-- What a TOKEN entry carries (R15). -/
structure TokenEntry where
  vend     : Nat
  meter    : Nat
  kind     : UnitKind
  seq      : Nat
  tenths   : Nat
  value    : Nat
  revision : Nat
  code     : BitVec 72
  deriving DecidableEq, Repr

/-- What a VEND_END entry carries (R23). -/
structure EndEntry where
  vend        : Nat
  ending      : Ending
  reason      : Option Reason
  issued      : Nat
  undelivered : Nat
  deriving DecidableEq, Repr

/-- What a BIND entry carries (R144). -/
structure BindEntry where
  target : SlotNo
  tag    : BitVec 32
  cls    : SlotClass
  perms  : BitVec 8
  lease  : Nat
  deriving DecidableEq, Repr

/-- Bodies of the sixteen entry kinds (R114). -/
inductive EntryBody where
  | vendOpen (e : OpenEntry)
  | token (e : TokenEntry)
  | vendEnd (e : EndEntry)
  | grant (number amount ceiling expiry : Nat)
  | recall (amount : Nat)
  | enrol (r : MeterRecord)
  | retire (meter : Nat)
  | meterUpdate (meter : Nat) (v : UpdateValues)
  | meterHold (meter : Nat) (st : MeterState)
  | keyLoad (group revision : Nat)
  | tariffLoad (b : TariffBody)
  | clockSet (old new month : Nat)
  | bind (e : BindEntry)
  | unbind (target : SlotNo)
  | shiftClose (t : Till)
  | start (kind : StartKind) (replayed closed : Nat)
  deriving DecidableEq, Repr

/-- An entry in the store (R113): the header's number, slot and time, the body, and the check it ends in. -/
structure Entry where
  number : Nat
  slot   : SlotNo
  time   : Nat
  body   : EntryBody
  check  : BitVec 16
  deriving DecidableEq, Repr

/-- How far an admin operation is: waiting for its target (UNBIND, R147), in its stage write (KEY_LOAD, R83; warned
when a supply warning was taken during it, R85), its entry queued, its entry committed and its record write owed, or
in the header write (SETTLE, R131). -/
inductive AdminPhase where
  | waiting | staging (warned : Bool) | queued | writing | header
  deriving DecidableEq, Repr

/-- A slot's admin operation (R136): the values its entry carries (none for SETTLE, which has no entry). -/
structure AdminOp where
  entry : Option EntryBody
  phase : AdminPhase
  deriving DecidableEq, Repr

/-- A slot record (R136). -/
structure Slot where
  state         : SlotState
  tag           : BitVec 32
  cls           : Option SlotClass
  perms         : BitVec 8
  lease         : Nat
  vend          : Option Vend
  admin         : Option AdminOp
  inHand        : Option (Byte × Byte)
  pendingChange : Option PendingChange
  lastEnding    : Option LastEnding
  till          : Till
  held          : Option (List Byte)
  notice        : Option Notice
  deriving DecidableEq, Repr

/-- Where the recovery scan stands (R172 to R178). -/
inductive ScanStage where
  | notBegun
  | readStore
  | voiding (rest : List Nat)
  | erasing (rest : List Nat)
  | replaying (rest : List Entry)
  | clearing
  | closing
  | starting
  | ended
  deriving DecidableEq, Repr

/-- The recovery scan: its stage and its two counts (R176, R177). -/
structure Scan where
  stage    : ScanStage
  replayed : Nat
  closed   : Nat
  deriving DecidableEq, Repr

/-- Supply Watch (R166, R167). -/
structure Watch where
  part      : PartState
  warning   : Bool
  resetLine : Bool
  supply    : Bool
  startKind : StartKind
  scan      : Scan
  deriving DecidableEq, Repr

/-- Target state of the Counter Bus Port (R182). WRITE keeps the slot's state at the address byte (R184);
READ keeps whether a not-acknowledge has stopped the sending (R185). -/
inductive Target where
  | free
  | write (slot : SlotNo) (atAddress : SlotState) (overrun : Bool)
  | read (slot : SlotNo) (frame : List Byte) (pos : Nat) (stopped : Bool)
  | passed
  deriving DecidableEq, Repr

/-- Counter Bus Port (R181 to R187). -/
structure Port where
  straps  : Fin 4
  target  : Target
  buffers : Vector (List Byte) 8
  ackOut  : Option Bool
  dataOut : Option Byte
  deriving DecidableEq, Repr

/-- Stages of a unit in progress (R10). -/
inductive UnitStage where
  | forming | committing | applying
  deriving DecidableEq, Repr

/-- The unit in progress (R10). -/
structure UnitInProgress where
  slot      : SlotNo
  index     : Nat
  seq       : Nat
  stage     : UnitStage
  discarded : Bool
  deriving DecidableEq, Repr

/-- Vend Engine (R10). -/
structure Engine where
  position : SlotNo
  unit     : Option UnitInProgress
  deriving DecidableEq, Repr

/-- A key revision with its 16 bytes of material (R80). -/
structure KeyGen where
  revision : Nat
  material : BitVec 128
  deriving DecidableEq, Repr

/-- A key table entry (R80). -/
structure KeyEntry where
  current  : Option KeyGen
  previous : Option KeyGen
  stage    : Option KeyGen
  applied  : Nat
  loading  : Bool
  deriving DecidableEq, Repr

/-- A write of the key table under way: stage write (R83), install write (R84, R86), stage clearing (R86). -/
inductive KeyWrite where
  | stage (group : Fin 4) (gen : KeyGen)
  | install (group : Fin 4) (number : Nat)
  | clear (group : Fin 4)
  deriving DecidableEq, Repr

/-- The transform under way (R73, R90), with the key revision its token is formed under. -/
structure Transform where
  plain    : BitVec 72
  key      : BitVec 64
  revision : Nat
  deriving DecidableEq, Repr

/-- Token Former (R80, R90). -/
structure Former where
  transform : Option Transform
  keys      : Vector KeyEntry 4
  keyWrite  : Option KeyWrite
  deriving DecidableEq, Repr

/-- A price block below a threshold (R34). -/
structure BlockStep where
  threshold : Nat
  price     : Nat
  deriving DecidableEq, Repr

/-- A tariff schedule (R34): the blocks but the last, the last block's price, the other fields, LOADING. -/
structure Schedule where
  steps     : List BlockStep
  lastPrice : Nat
  fixed     : Nat
  allowance : Nat
  cap       : Nat
  maxTender : Nat
  applied   : Nat
  loading   : Bool
  deriving DecidableEq, Repr

/-- Tariff Unit (R34): the schedules and the schedule write under way (R39) with its journal number. -/
structure Tariff where
  schedules : Vector Schedule 8
  write     : Option (TariffBody × Nat)
  deriving DecidableEq, Repr

/-- What a committed entry writes to its meter record (R61, R62). -/
inductive RecordChange where
  | opening (rolled : Bool) (month fixed arrears : Nat)
  | token (kind : UnitKind) (seq tenths newRevision : Nat)
  | create (r : MeterRecord)
  | remove
  | update (v : UpdateValues)
  | state (st : MeterState)
  deriving DecidableEq, Repr

/-- For whom a record write is made (R13, R16, R63, R62). -/
inductive WriteOwner where
  | opening (k : SlotNo)
  | unit (tok : Token)
  | admin (k : SlotNo)
  | replay
  deriving DecidableEq, Repr

/-- A meter record write that a commit has caused and that has not completed (R55, R61). -/
structure MeterWrite where
  owner  : WriteOwner
  meter  : Nat
  change : RecordChange
  number : Nat
  deriving DecidableEq, Repr

/-- A record of the table with its volatile lock (R54, R57). -/
structure MeterCell where
  record : MeterRecord
  lock   : Option SlotNo
  deriving DecidableEq, Repr

/-- Meter Table (R54): the records in rising order of meter number, and the writes owed in commit order. -/
structure Meters where
  cells  : List MeterCell
  writes : List MeterWrite
  deriving DecidableEq, Repr

/-- The float record (R91). -/
structure FloatRecord where
  balance   : Nat
  ceiling   : Nat
  expiry    : Nat
  lastGrant : Nat
  applied   : Nat
  deriving DecidableEq, Repr

/-- LIVE or FROZEN (R96). -/
inductive FloatState where
  | live | frozen
  deriving DecidableEq, Repr

/-- A reservation (R93). -/
structure Reservation where
  slot   : SlotNo
  amount : Nat
  deriving DecidableEq, Repr

/-- The response a float write owes when it completes (R100, R103), with the values after the commit. -/
inductive FloatDone where
  | nothing
  | grant (number journal : Nat) (state : FloatState)
  | recall (amount journal available : Nat)
  deriving DecidableEq, Repr

/-- A float record write owed: the working copy after its commit, and the response it owes (R92). -/
structure FloatWrite where
  record : FloatRecord
  done   : FloatDone
  deriving DecidableEq, Repr

/-- Float Account (R91 to R98). -/
structure FloatAccount where
  nv           : FloatRecord
  work         : FloatRecord
  reservations : List Reservation
  windowOpen   : Bool
  state        : FloatState
  writes       : List FloatWrite
  officeCode   : BitVec 32
  deriving DecidableEq, Repr

/-- Journal modes (R126). -/
inductive JournalMode where
  | normal | failed
  deriving DecidableEq, Repr

/-- Bytes of an entry slot that are not all 0xFF (R108, R113): those of an entry with its check, those with the void
mark, and those of neither. SlotContent.judged classes them. -/
inductive SlotContent where
  | written (e : Entry)
  | void
  | halfWritten
  deriving DecidableEq, Repr

/-- Page states (R109). -/
inductive PageState where
  | erased | filling | full | settled | erasing | worn
  deriving DecidableEq, Repr

/-- Places of the entry queue (R116). -/
inductive Place where
  | engine
  | slot (k : SlotNo)
  deriving DecidableEq, Repr

/-- An entry waiting in the queue (R116): its place, slot byte, whether it holds a reservation (R119), body. -/
structure QEntry where
  place    : Place
  slot     : SlotNo
  reserved : Bool
  body     : EntryBody
  deriving DecidableEq, Repr

/-- The operation of the store (R108). An address is page * 32 + entry slot. -/
inductive StoreOp where
  | idle
  | program (addr number time : Nat)
  | voidMark (addr : Nat)
  | erase (page : Nat)
  | wornMark (page : Nat)
  deriving DecidableEq, Repr

/-- The settle header write under way (R131). -/
structure HeaderWrite where
  requested : Nat
  target    : Nat
  clippedBy : Option Nat
  deriving DecidableEq, Repr

/-- Journal (R108 to R135). The store lists the entry slots that are not blank. -/
structure Journal where
  store      : List (Nat × SlotContent)
  worn       : List Nat
  mark       : Nat
  last       : Nat
  tail       : Option Nat
  mode       : JournalMode
  reserved   : Nat
  queue      : List QEntry
  op         : StoreOp
  failedOnce : Bool
  header     : Option HeaderWrite
  deriving DecidableEq, Repr

/-- Clock states (R156). -/
inductive ClockState where
  | unset | running
  deriving DecidableEq, Repr

/-- The clock settings write under way (R163): month index, journal number, the measured step (none when the clock was
UNSET), the float state after the judgement, and whether a CLOCK_SET of slot 0 owns it (or the replay, R165). -/
structure SettingsWrite where
  month  : Nat
  number : Nat
  step   : Option Int
  judged : FloatState
  live   : Bool
  deriving DecidableEq, Repr

/-- Office Clock (R156, R159). channels holds channel k at index k for 1 to 7, and channel 8 at index 0. -/
structure Clock where
  state           : ClockState
  seconds         : Nat
  month           : Nat
  taken           : Nat
  settingsMonth   : Nat
  settingsApplied : Nat
  channels        : Vector (Option Nat) 8
  settingsWrite   : Option SettingsWrite
  deriving DecidableEq, Repr

/-- The state of the part: the queue of waiting commands, the ten blocks, and the counter the free values are
applied to (the model's own). -/
structure State where
  pending : List Instr
  watch   : Watch
  port    : Port
  slots   : Vector Slot 8
  engine  : Engine
  former  : Former
  tariff  : Tariff
  meters  : Meters
  float   : FloatAccount
  journal : Journal
  clock   : Clock
  free    : Nat
  deriving DecidableEq, Repr

/-- What a command answers. -/
abbrev Out := Host.Outcome State Fault Refusal

/-- Till totals of zero (R150). -/
def Till.zero : Till := ⟨0, 0, 0, 0⟩

/-- A desk slot after a reset (R154). -/
def Slot.deskReset : Slot :=
  { state := .unbound, tag := 0, cls := none, perms := 0, lease := 120, vend := none, admin := none, inHand := none,
    pendingChange := none, lastEnding := none, till := Till.zero, held := none, notice := none }

/-- Slot 0 after a reset (R154): REPRINT, BIND, METER_HOLD, CROSS_READ and SETTLEMENT are bits 1, 3, 4, 5, 6 (R190). -/
def Slot.zeroReset : Slot :=
  { Slot.deskReset with state := .idle, cls := some .settlement, perms := 0x7A }

/-- The slot records after a reset (R154). -/
def Slot.table : Vector Slot 8 := (Vector.replicate 8 Slot.deskReset).set 0 Slot.zeroReset

/-- The port after a reset (R182): FREE, buffers empty, nothing driven. -/
def Port.reset (straps : Fin 4) : Port :=
  { straps := straps, target := .free, buffers := Vector.replicate 8 [], ackOut := none, dataOut := none }

/-- A schedule as delivered (R36). -/
def Schedule.delivered : Schedule :=
  { steps := [], lastPrice := 100000, fixed := 0, allowance := 0, cap := 100, maxTender := 100, applied := 0,
    loading := false }

/-- A key table entry as delivered (R80). -/
def KeyEntry.delivered : KeyEntry :=
  { current := none, previous := none, stage := none, applied := 0, loading := false }

/-- The float record as delivered (R91). -/
def FloatRecord.delivered : FloatRecord := ⟨0, 0, 0, 0, 0⟩

/-- The scan before it has begun (R172). -/
def Scan.fresh : Scan := ⟨.notBegun, 0, 0⟩

/-- The journal as delivered, right after a reset (R108, R129, R135). -/
def Journal.delivered : Journal :=
  { store := [], worn := [], mark := 0, last := 0, tail := none, mode := .normal, reserved := 0, queue := [],
    op := .idle, failedOnce := false, header := none }

/-- The clock of a delivered part right after a cold start (R156). -/
def Clock.delivered : Clock :=
  { state := .unset, seconds := 0, month := 0, taken := max32, settingsMonth := 0, settingsApplied := 0,
    channels := Vector.replicate 8 none, settingsWrite := none }

/-- The part as delivered right after its first cold start, the recovery scan not yet begun (R166, R167). -/
def State.reset : State :=
  { pending := []
    watch := ⟨.starting, false, false, true, .cold, Scan.fresh⟩
    port := Port.reset 0
    slots := Slot.table
    engine := ⟨7, none⟩
    former := ⟨none, Vector.replicate 4 KeyEntry.delivered, none⟩
    tariff := ⟨Vector.replicate 8 Schedule.delivered, none⟩
    meters := ⟨[], []⟩
    float := { nv := FloatRecord.delivered, work := FloatRecord.delivered, reservations := [], windowOpen := false,
               state := .frozen, writes := [], officeCode := Config.officeCode }
    journal := Journal.delivered
    clock := Clock.delivered
    free := 0 }

end Sys2Proof.Machine
end

