-- ==== Sys2Proof/Machine/Codes.lean ====
section
/-! DEFINITION. Codes and widths of the fields that responses and journal entries carry (R190 to R194), the bytes of an
entry slot with its check, and the class of an entry slot judged by it (R113, R188). -/

namespace Sys2Proof

/-- The fields of a TARIFF_LOAD as its entry carries them (R38): every field of the request, the raw values of all four
block positions too, beyond the block count as sent (LOG 36, the model's choice). -/
def TariffBody.bytes (b : TariffBody) : List Byte :=
  joinFields RequestCode.tariffLoad.widths (Instr.tariffLoad ⟨0, 0⟩ b).fields

end Sys2Proof

namespace Sys2Proof.Machine

/-! ### Codes (R190, R194) -/

/-- Byte 2 of a response (R194). -/
def Result.code : Result → Byte
  | .done => 0 | .part => 1 | .ended => 2 | .refused => 3 | .notReady => 4

/-- Byte 3 of a response (R194). -/
def Reason.code : Reason → Byte
  | .meterBusy => 0x01 | .busyLoading => 0x02 | .powerLow => 0x03 | .starting => 0x04
  | .badFrame => 0x10 | .badField => 0x11 | .notBound => 0x12 | .tagMismatch => 0x13 | .notPermitted => 0x14
  | .wrongState => 0x15 | .unknownMeter => 0x16 | .meterBlocked => 0x17 | .seqExhausted => 0x18
  | .rekeyLost => 0x19 | .freeTaken => 0x1A | .amountLimit => 0x1B | .tenderLow => 0x1C | .floatShort => 0x1D
  | .floatFrozen => 0x1E | .journalFull => 0x1F | .storeFault => 0x20 | .clockUnset => 0x21 | .tableFull => 0x22
  | .groupBusy => 0x23 | .grantShut => 0x24 | .grantCheck => 0x25 | .grantOrder => 0x26 | .ceiling => 0x27
  | .clockStep => 0x28 | .entryGone => 0x29
  | .abandoned => 0x30 | .leaseExpired => 0x31 | .unbound => 0x32

/-- The reason byte; 0x00 where there is none (R191). -/
def reasonByte (r : Option Reason) : Byte := r.elim 0 Reason.code

/-- Slot state codes (R190). -/
def SlotState.code : SlotState → Nat
  | .unbound => 0 | .idle => 1 | .working => 2 | .held => 3

/-- Class codes (R190). -/
def SlotClass.code : SlotClass → Nat
  | .settlement => 0 | .supervisor => 1 | .cashier => 2

/-- Ending codes (R190). -/
def Ending.code : Ending → Nat
  | .complete => 0 | .partly => 1 | .interrupted => 2 | .refused => 3

/-- Token class codes (R73, R190). -/
def UnitKind.code : UnitKind → Nat
  | .credit => 0 | .free => 1 | .rekeyA => 2 | .rekeyB => 3

/-- Meter state codes (R190). -/
def MeterState.code : MeterState → Nat
  | .active => 0 | .blocked => 1

/-- Float state codes (R190). -/
def FloatState.code : FloatState → Nat
  | .live => 0 | .frozen => 1

/-- Journal mode codes (R190). -/
def JournalMode.code : JournalMode → Nat
  | .normal => 0 | .failed => 1

/-- Clock state codes (R190). -/
def ClockState.code : ClockState → Nat
  | .unset => 0 | .running => 1

/-- Kind of start codes (R190). -/
def StartKind.code : StartKind → Nat
  | .warm => 0 | .cold => 1

/-- Kind codes of entries (R114). -/
def EntryBody.code : EntryBody → Nat
  | .vendOpen _ => 1 | .token _ => 2 | .vendEnd _ => 3 | .grant _ _ _ _ => 4 | .recall _ => 5 | .enrol _ => 6
  | .retire _ => 7 | .meterUpdate _ _ => 8 | .meterHold _ _ => 9 | .keyLoad _ _ => 10 | .tariffLoad _ => 11
  | .clockSet _ _ _ => 12 | .bind _ => 13 | .unbind _ => 14 | .shiftClose _ => 15 | .start _ _ _ => 16

/-- A key revision, or none as 0xFF (R190). -/
def revisionBytes (g : Option KeyGen) : List Byte := beBytes 1 (g.elim 0xFF (·.revision))

/-- A vend number; 0 stands for none (R190). -/
def vendNoBytes (n : Option Nat) : List Byte := beBytes 4 (n.getD 0)

/-- Till totals in the widths of R190. -/
def Till.bytes (t : Till) : List Byte :=
  beBytes 4 t.closed ++ beBytes 5 t.tender ++ beBytes 5 t.change ++ beBytes 6 t.undelivered

/-- A last ending in the order of R32 and R193; empty when there is none. -/
def lastEndingBytes (e : Option LastEnding) : List Byte :=
  match e with
  | none => []
  | some e => vendNoBytes e.number ++ beBytes 1 e.ending.code ++ [reasonByte e.reason] ++ beBytes 1 e.issued ++
      beBytes 4 e.undelivered

/-- Clock state, seconds and month index, as every response to CLOCK_SET carries them (R161). -/
def Clock.bytes (c : Clock) : List Byte := beBytes 1 c.state.code ++ beBytes 4 c.seconds ++ beBytes 2 c.month

/-- The step of a CLOCK_SET as a 40-bit two's-complement number; 0 when it was not measured (R190). -/
def stepBytes (s : Option Int) : List Byte := beBytes 5 (BitVec.ofInt 40 (s.getD 0)).toNat

/-- A token in the 16-byte form of R192. -/
def Token.bytes (t : Token) : List Byte :=
  beBytes 9 t.code.toNat ++ beBytes 1 t.kind.code ++ beBytes 2 t.seq ++ beBytes 4 t.number

/-- A meter record in the order of R54, its applied-through left out (the body of an ENROL entry, LOG 17). -/
def MeterRecord.entryBytes (r : MeterRecord) : List Byte :=
  beBytes 5 r.number ++ beBytes 1 r.state.code ++ beBytes 1 r.group ++ beBytes 1 r.revision ++ beBytes 1 r.schedule ++
    beBytes 2 r.lastSeq ++ beBytes 2 r.monthStamp ++ beBytes 4 r.monthTenths ++ beBytes 3 r.fixed ++
    beBytes 1 r.freeTaken.toNat ++ beBytes 3 r.arrears ++ beBytes 1 r.recovery

/-- The values of a METER_UPDATE entry, those carried only, in the order of R70 and R71 (LOG 17). -/
def UpdateValues.bytes (v : UpdateValues) : List Byte :=
  v.schedule.elim [] (beBytes 1) ++ v.arrears.elim [] (beBytes 3) ++ v.recovery.elim [] (beBytes 1) ++
    v.lastSeq.elim [] (beBytes 2) ++
    v.move.elim [] (fun m => beBytes 1 m.group ++ beBytes 1 m.revision ++ beBytes 2 m.floor)

/-- The body fields of an entry in the order of R114 and the widths of R190. -/
def EntryBody.bytes : EntryBody → List Byte
  | .vendOpen e => beBytes 5 e.meter ++ beBytes 3 e.tender ++ beBytes 3 e.fixed ++ beBytes 3 e.arrears ++
      beBytes 3 e.change ++ beBytes 1 e.retained ++ beBytes 3 e.tenths ++ beBytes 4 e.value ++ beBytes 1 e.planned ++
      beBytes 2 e.month
  | .token e => beBytes 4 e.vend ++ beBytes 5 e.meter ++ beBytes 1 e.kind.code ++ beBytes 2 e.seq ++
      beBytes 2 e.tenths ++ beBytes 4 e.value ++ beBytes 1 e.revision ++ beBytes 9 e.code.toNat
  | .vendEnd e => beBytes 4 e.vend ++ beBytes 1 e.ending.code ++ [reasonByte e.reason] ++ beBytes 1 e.issued ++
      beBytes 4 e.undelivered
  | .grant n a c x => beBytes 4 n ++ beBytes 5 a ++ beBytes 5 c ++ beBytes 4 x
  | .recall a => beBytes 5 a
  | .enrol r => r.entryBytes
  | .retire m => beBytes 5 m
  | .meterUpdate m v => beBytes 5 m ++ v.bytes
  | .meterHold m st => beBytes 5 m ++ beBytes 1 st.code
  | .keyLoad g r => beBytes 1 g ++ beBytes 1 r
  | .tariffLoad b => b.bytes
  | .clockSet o n m => beBytes 4 o ++ beBytes 4 n ++ beBytes 2 m
  | .bind e => beBytes 1 e.target.val ++ beBytes 4 e.tag.toNat ++ beBytes 1 e.cls.code ++ [e.perms] ++
      beBytes 2 e.lease
  | .unbind t => beBytes 1 t.val
  | .shiftClose t => t.bytes
  | .start k r c => beBytes 1 k.code ++ beBytes 4 r ++ beBytes 4 c

/-- An entry as a record of a JOURNAL_READ response: its own length, kind, slot byte, time, body (R193, LOG 17). -/
def Entry.recordBytes (e : Entry) : List Byte :=
  let rest := beBytes 1 e.body.code ++ beBytes 1 e.slot.val ++ beBytes 4 e.time ++ e.body.bytes
  beBytes 1 (rest.length + 1) ++ rest

/-! ### The bytes of an entry slot (R113, R188) -/

/-- Which values a METER_UPDATE entry carries: the presence bits of R190. -/
def UpdateValues.presence (v : UpdateValues) : Nat :=
  v.schedule.isSome.toNat + 2 * v.arrears.isSome.toNat + 4 * v.recovery.isSome.toNat + 8 * v.lastSeq.isSome.toNat +
    16 * v.move.isSome.toNat

/-- The body of an entry in bytes 10 to 61 of its entry slot: its fields as JOURNAL_READ gives them (a METER_UPDATE's
values behind their presence bits), then zeros. The spec calls the packed form internal to the store; this one is the
model's choice (LOG 24). -/
def EntryBody.packed (b : EntryBody) : List Byte :=
  let fields := match b with
    | .meterUpdate m v => beBytes 5 m ++ beBytes 1 v.presence ++ v.bytes
    | _ => b.bytes
  (fields ++ List.replicate 52 0).take 52

/-- Bytes 0 to 61 of an entry slot (R113): journal number, kind, slot, time, body. -/
def entryBytes (number : Nat) (slot : SlotNo) (time : Nat) (body : EntryBody) : List Byte :=
  beBytes 4 number ++ beBytes 1 body.code ++ beBytes 1 slot.val ++ beBytes 4 time ++ body.packed

/-- An entry as the Journal completes it when its program begins (R113, R117): number, slot, time, and the check over
bytes 0 to 61 (R188). -/
def Entry.sealed (number : Nat) (slot : SlotNo) (time : Nat) (body : EntryBody) : Entry :=
  ⟨number, slot, time, body, check16 (entryBytes number slot time body)⟩

/-- The check of an entry slot agrees with its bytes 0 to 61 (R113, R188). -/
def Entry.agrees (e : Entry) : Bool := e.check == check16 (entryBytes e.number e.slot e.time e.body)

/-- The class of an entry slot that is not blank (R113): void by its kind byte, written when its check agrees, and
half-written when it does not. -/
def SlotContent.judged : SlotContent → SlotContent
  | .written e => if e.agrees then .written e else .halfWritten
  | .void => .void
  | .halfWritten => .halfWritten

end Sys2Proof.Machine
end

