-- ==== Sys2Proof/Machine/Flags.lean ====
section
/-! DEFINITION. What the part computes from its state and stores nowhere: page states, obtainable entry slots, the
first number in the store, apply holds, available float, permission items, work at the engine. -/

namespace Sys2Proof.Machine

/-! ### The journal's store (R108 to R112) -/

/-- Bytes of an entry slot; none for a blank one. -/
def Journal.cell (j : Journal) (addr : Nat) : Option SlotContent := (j.store.find? (fun c => c.1 == addr)).map (·.2)

/-- The class of an entry slot, judged by its check (R113); none for a blank one. -/
def Journal.content (j : Journal) (addr : Nat) : Option SlotContent := (j.cell addr).map SlotContent.judged

/-- The entry slots of a list with their classes. -/
def judgedSlots (cs : List (Nat × SlotContent)) : List (Nat × SlotContent) := cs.map (fun c => (c.1, c.2.judged))

/-- The bytes of a page's entry slots that are not blank. -/
def Journal.pageCells (j : Journal) (p : Nat) : List (Nat × SlotContent) :=
  j.store.filter (fun c => c.1 / slotsPerPage == p)

/-- The entry slots of a page that are not blank, with their classes. -/
def Journal.pageSlots (j : Journal) (p : Nat) : List (Nat × SlotContent) := judgedSlots (j.pageCells p)

/-- Blank entry slots of a page. -/
def Journal.blankCount (j : Journal) (p : Nat) : Nat := slotsPerPage - (j.pageSlots p).length

/-- An erase of the page is under way, its worn-mark write included (R109: ERASING is left for WORN when the mark
has been written). -/
def Journal.erasingPage (j : Journal) (p : Nat) : Bool :=
  match j.op with
  | .erase q => q == p
  | .wornMark q => q == p
  | .idle => false
  | .program _ _ _ => false
  | .voidMark _ => false

/-- Every written entry of the page is at or below the settle mark; void entry slots count as settled (R109). -/
def Journal.pageSettled (j : Journal) (p : Nat) : Bool :=
  (j.pageSlots p).all (fun c => match c.2 with
    | .written e => decide (e.number ≤ j.mark)
    | .void => true
    | .halfWritten => true)

/-- The state of a page (R109). A blank page that is still the tail, as one is whose erase has verified when no other
page has been used since, is FILLING: R109 holds it so, where R124 calls it ERASED (LOG 31, the model's choice). -/
def Journal.pageState (j : Journal) (p : Nat) : PageState :=
  if p ∈ j.worn then .worn
  else if j.erasingPage p then .erasing
  else if j.tail = some p ∧ j.blankCount p ≠ 0 then .filling
  else if j.pageSlots p = [] then .erased
  else if j.pageSettled p then .settled
  else .full

/-- The pages in circular order from the one after the tail to the tail (R110); from page 0 when there is no tail. -/
def circularFrom (tail : Option Nat) : List Nat :=
  (List.range pageCount).map (fun i => (tail.elim 0 (· + 1) + i) % pageCount)

/-- The lowest blank entry slot of a page, as an address. -/
def Journal.lowestBlank (j : Journal) (p : Nat) : Option Nat :=
  ((List.range slotsPerPage).map (fun i => p * slotsPerPage + i)).find? (fun a => (j.content a).isNone)

/-- The entry slot at hand for the head of the queue (R110, R117): the lowest blank one of the FILLING page, else
entry slot 0 of the next ERASED page after the tail. -/
def Journal.slotAtHand (j : Journal) : Option Nat :=
  match (List.range pageCount).find? (fun p => j.pageState p == .filling) with
  | some p => j.lowestBlank p
  | none => ((circularFrom j.tail).find? (fun p => j.pageState p == .erased)).map (· * slotsPerPage)

/-- The oldest SETTLED page in store order (R110, R122). -/
def Journal.oldestSettled (j : Journal) : Option Nat :=
  (circularFrom j.tail).find? (fun p => j.pageState p == .settled)

/-- What a page adds to the obtainable entry slots (R112). -/
def Journal.pageObtainable (j : Journal) (p : Nat) : Nat :=
  match j.pageState p with
  | .filling => j.blankCount p
  | .erased => slotsPerPage
  | .erasing => slotsPerPage
  | .settled => slotsPerPage
  | .full => 0
  | .worn => 0

/-- The obtainable entry slots (R112). -/
def Journal.obtainable (j : Journal) : Nat := ((List.range pageCount).map j.pageObtainable).sum

/-- How many pages are ERASED (R122). -/
def Journal.erasedPages (j : Journal) : Nat :=
  ((List.range pageCount).filter (fun p => j.pageState p == .erased)).length

/-- The entries of a list of entry slots: those whose check agrees. -/
def entriesOf (cs : List (Nat × SlotContent)) : List Entry :=
  (judgedSlots cs).filterMap (fun c => match c.2 with
    | .written e => some e
    | .void => none
    | .halfWritten => none)

/-- The entries in the store, in store order, that is in journal order (R110 to R112): pages after the tail first;
a page under erase has none. -/
def Journal.entries (j : Journal) : List Entry :=
  let live := j.store.filter (fun c => !j.erasingPage (c.1 / slotsPerPage))
  let cut := j.tail.elim pageCount id
  entriesOf (live.filter (fun c => cut < c.1 / slotsPerPage) ++ live.filter (fun c => c.1 / slotsPerPage ≤ cut))

/-- The first number in the store (R112), or none. -/
def Journal.firstNumber (j : Journal) : Option Nat := (j.entries.map (·.number)).min?

/-- A journal number is in the store (R112). -/
def Journal.inStore (j : Journal) (n : Nat) : Bool :=
  match j.firstNumber with
  | none => false
  | some f => decide (f ≤ n ∧ n ≤ j.last)

/-- The entry with a journal number, if it is in the store. -/
def Journal.entry? (j : Journal) (n : Nat) : Option Entry := j.entries.find? (fun e => e.number == n)

/-- The head of the queue is under program: its program or void mark is under way, or its retry is owed (R116). -/
def Journal.headUnderProgram (j : Journal) : Bool :=
  j.failedOnce || (match j.op with
    | .program _ _ _ => true
    | .voidMark _ => true
    | .idle => false
    | .erase _ => false
    | .wornMark _ => false)

/-- The VEND_OPEN of a slot stands in the queue and its program has not begun (R26). -/
def Journal.openWithdrawable (j : Journal) (k : SlotNo) : Bool :=
  let waiting := if j.headUnderProgram then j.queue.drop 1 else j.queue
  waiting.any (fun e => e.place == .slot k)

/-- The sequence floor of R68: the highest sequence of the meter's TOKEN entries under a key revision, or 0. -/
def Journal.sequenceFloor (j : Journal) (meter revision : Nat) : Nat :=
  j.entries.foldl (fun m e => match e.body with
    | .token t => if t.meter = meter ∧ t.revision = revision then max m t.seq else m
    | _ => m) 0

/-! ### Apply holds (R92, R118) -/

/-- An apply hold is set: a record write that a commit caused has not completed. -/
def State.applyHold (s : State) : Bool :=
  !s.meters.writes.isEmpty || !s.float.writes.isEmpty || s.tariff.write.isSome || s.clock.settingsWrite.isSome ||
    (match s.former.keyWrite with
      | some (.install _ _) => true
      | some (.stage _ _) => false
      | some (.clear _) => false
      | none => false)

/-! ### The float (R93) -/

/-- The sum of the reservations. -/
def FloatAccount.reservedPoints (f : FloatAccount) : Nat := (f.reservations.map (·.amount)).sum

/-- The available float (R93). -/
def FloatAccount.available (f : FloatAccount) : Nat := f.work.balance - f.reservedPoints

/-- The available float is at least an amount. -/
def FloatAccount.covers (f : FloatAccount) (amount : Nat) : Bool :=
  decide (f.reservedPoints + amount ≤ f.work.balance)

/-! ### Slots -/

/-- The bit of a permission item (R190). -/
def PermItem.bit : PermItem → Nat
  | .vend => 0 | .reprint => 1 | .shiftClose => 2 | .bind => 3 | .meterHold => 4 | .crossRead => 5 | .settlement => 6

/-- A permission set holds an item. -/
def holdsItem (perms : BitVec 8) (i : PermItem) : Bool := perms.getLsbD i.bit

/-- The items each class may hold (R137). -/
def SlotClass.mayHold : SlotClass → BitVec 8
  | .settlement => 0x7A
  | .supervisor => 0x3F
  | .cashier => 0x27

/-- A slot record. -/
def State.slot (s : State) (k : SlotNo) : Slot := s.slots[k]

/-- The points of the units not yet issued (R8). -/
def Vend.undelivered (v : Vend) : Nat := ((v.plan.units.drop v.issued).map (·.value)).sum

/-- The unit in progress is this slot's and is not discarded. -/
def Engine.unitOf (e : Engine) (k : SlotNo) : Option UnitInProgress :=
  e.unit.filter (fun u => u.slot == k && !u.discarded)

/-- A slot has work at the engine (R10). -/
def State.hasWork (s : State) (k : SlotNo) : Bool :=
  k != 0 && (s.slot k).state == .working &&
    (match (s.slot k).vend with
      | none => false
      | some v => v.pendingEnding.isNone &&
          (match v.phase with
            | .opening => !v.openQueued
            | .issuing => decide (v.issued < v.plan.units.length) && (s.engine.unitOf k).isNone
            | .closing => false))

/-- The order of the engine's search (R11): the slot after the position, up to 7 and on from 1. -/
def searchOrder (position : SlotNo) : List SlotNo :=
  (List.range 7).map (fun i => Fin.ofNat 8 ((position.val + i) % 7 + 1))

/-! ### The meter table and the clock -/

/-- The record of a meter number with its lock, as a lookup sees it (R55). -/
def Meters.lookup (m : Meters) (meter : Nat) : Option MeterCell :=
  m.cells.find? (fun c => c.record.number == meter)

/-- The day number (R158). -/
def Clock.day (c : Clock) : Nat := c.seconds / 86400 % 4096

/-- The vends in flight whose VEND_OPEN has committed and whose VEND_END has not (R131). -/
def State.openVends (s : State) : List Nat :=
  s.slots.toList.filterMap (fun sl => sl.vend.bind (·.number))

end Sys2Proof.Machine
end

