-- ==== Sys2Proof/Machine/Operands.lean ====
section
/-! DEFINITION. The operand side of the bus: response frames (R191, R192), the frame a read is given (R139), and the
ranges of request fields (R34, R54). -/

namespace Sys2Proof

/-! ### Request bodies (R34, R37, R54, R66, R70) -/

/-- A meter number in its range (R54). -/
def meterInRange (m : Nat) : Bool := decide (1 ≤ m ∧ m ≤ maxMeter)

/-- The first `count` block positions of a TARIFF_LOAD (R37). -/
def TariffBody.positions (b : TariffBody) : List BlockPos := [b.pos1, b.pos2, b.pos3, b.pos4].take b.count

/-- Thresholds of all positions but the last: in range and each above the one before (R34). -/
def thresholdsRise : Nat → List BlockPos → Bool
  | _, [] => true
  | _, [p] => p.threshold == 0
  | low, p :: rest => decide (low < p.threshold ∧ p.threshold ≤ 1000000) && thresholdsRise p.threshold rest

/-- The field check of R37. -/
def TariffBody.inRange (b : TariffBody) : Bool :=
  decide (b.schedule ≤ 7) && decide (1 ≤ b.count ∧ b.count ≤ 4) &&
    b.positions.all (fun p => decide (1 ≤ p.price ∧ p.price ≤ 100000)) && thresholdsRise 0 b.positions &&
    decide (b.fixed ≤ 100000) && decide (b.allowance ≤ 1000) && decide (100 ≤ b.cap ∧ b.cap ≤ 65535) &&
    decide (100 ≤ b.maxTender ∧ b.maxTender ≤ 500000)

/-- The field check of an ENROL (R54, R66). -/
def EnrolBody.inRange (b : EnrolBody) : Bool :=
  meterInRange b.meter && decide (b.state ≤ 1) && decide (b.group ≤ 3) && decide (b.revision ≤ 15) &&
    decide (b.schedule ≤ 7) && decide (b.lastSeq ≤ 65535) && decide (b.monthTenths ≤ max32) &&
    decide (b.fixed ≤ 100000) && decide (b.freeTaken ≤ 1) && decide (b.arrears ≤ 10000000) && decide (b.recovery ≤ 50)

/-- A presence bit of a METER_UPDATE (R190). -/
def UpdateBody.has (b : UpdateBody) (i : Nat) : Bool := b.presence.getLsbD i

/-- Check 1 of R70: range of the meter number and of every present value, at least one change, no change past bit 4,
last sequence and key move not both present. -/
def UpdateBody.inRange (b : UpdateBody) : Bool :=
  meterInRange b.meter && (b.presence != 0) && decide (b.presence.toNat < 32) &&
    (!b.has 0 || decide (b.schedule ≤ 7)) && (!b.has 1 || decide (b.arrears ≤ 10000000)) &&
    (!b.has 2 || decide (b.recovery ≤ 50)) && (!b.has 3 || decide (1 ≤ b.lastSeq ∧ b.lastSeq ≤ 65535)) &&
    (!b.has 4 || decide (b.group ≤ 3)) && !(b.has 3 && b.has 4)

end Sys2Proof

namespace Sys2Proof.Machine

/-! ### Response frames (R191) -/

/-- A response frame: code, echoed sequence, result, reason, body length, body, check (R191). -/
def responseFrame (code seq : Byte) (res : Result) (reason : Option Reason) (body : List Byte) : List Byte :=
  withCheck ([code, seq, res.code, reasonByte reason, BitVec.ofNat 8 body.length] ++ body)

/-- The first 29 bytes of a vend's response body (R192). -/
def Vend.summaryBytes (v : Vend) : List Byte :=
  beBytes 4 v.receipt ++ vendNoBytes v.number ++ beBytes 3 v.plan.tender ++ beBytes 3 v.plan.fixed ++
    beBytes 3 v.plan.arrears ++ beBytes 3 v.plan.change ++ beBytes 1 v.plan.retained ++ beBytes 4 v.plan.value ++
    beBytes 4 (v.plan.units.length * 2 ^ 27 + v.issued * 2 ^ 22 + v.plan.tenths)

/-- The tokens of a batch, in the order they joined (R192). -/
def batchBytes (ts : List Token) : List Byte := ts.flatMap Token.bytes

/-- Body of PART and DONE (R192). -/
def Vend.bodyBytes (v : Vend) : List Byte := v.summaryBytes ++ batchBytes v.batch

/-- Body of ENDED (R192). -/
def Vend.endedBytes (v : Vend) : List Byte :=
  v.summaryBytes ++ beBytes 4 v.undelivered ++ batchBytes v.batch

/-- The frame a read of a slot is given, chosen by the slot's state (R139). -/
def Slot.readFrame (sl : Slot) : List Byte :=
  match sl.state with
  | .unbound =>
    match sl.held with
    | some f => f
    | none =>
      match sl.notice with
      | some n => responseFrame n.code n.seq .refused (some n.reason) []
      | none => responseFrame 0 0 .refused (some .notBound) []
  | .idle => sl.held.getD (responseFrame 0 0 .done none [])
  | .working =>
    let c := sl.inHand.getD (0, 0)
    responseFrame c.1 c.2 .notReady none []
  | .held => sl.held.getD (responseFrame 0 0 .done none [])

/-! ### Checks made in order -/

/-- The reason of the first check of a table that fails. -/
def firstFailed : List (Bool × Reason) → Option Reason
  | [] => none
  | (true, _) :: rest => firstFailed rest
  | (false, r) :: _ => some r

/-- The part-state checks of every request: STARTING in STARTING, POWER_LOW in HOLDUP (R166). -/
def State.partChecks (s : State) : List (Bool × Reason) :=
  [(s.watch.part != .starting, .starting), (s.watch.part != .holdup, .powerLow)]

/-- The Journal's two checks of an admin request (R120). -/
def State.journalChecks (s : State) : List (Bool × Reason) :=
  [(s.journal.mode == .normal, .storeFault), (decide (s.journal.reserved + 1 ≤ s.journal.obtainable), .journalFull)]

/-! ### Ranges of request fields -/

/-- The meter state a code names (R190). -/
def MeterState.ofCode : Nat → Option MeterState
  | 0 => some .active
  | 1 => some .blocked
  | _ => none

/-- The class a BIND may name by code (R143, R190). -/
def SlotClass.ofBindCode : Nat → Option SlotClass
  | 1 => some .supervisor
  | 2 => some .cashier
  | _ => none

end Sys2Proof.Machine
end

