-- ==== Sys2Proof/Machine/Ops.lean ====
section
/-! DEFINITION. The shared operations over the blocks' state: slots, compare channels, responses, the journal's store and
queue, meter locks and record writes, float changes, key table changes, the float judgement. -/

namespace Sys2Proof.Machine

/-! ### Slots, channels, locks -/

/-- Slot k's record changed. -/
def State.modSlot (s : State) (k : SlotNo) (f : Slot → Slot) : State :=
  { s with slots := s.slots.set k (f (s.slot k)) }

/-- A compare channel set or cleared (R159); channel 8 is index 0. -/
def Clock.setChannel (c : Clock) (k : SlotNo) (d : Option Nat) : Clock :=
  { c with channels := c.channels.set k d }

/-- A compare channel set or cleared. -/
def State.setChannel (s : State) (k : SlotNo) (d : Option Nat) : State :=
  { s with clock := s.clock.setChannel k d }

/-- The lock of a meter's record given to a slot, or made free (R57, R58). -/
def Meters.setLock (m : Meters) (meter : Nat) (owner : Option SlotNo) : Meters :=
  { m with cells := m.cells.map (fun c => if c.record.number = meter then { c with lock := owner } else c) }

/-- The lock of a meter's record given to a slot, or made free. -/
def State.setLock (s : State) (meter : Nat) (owner : Option SlotNo) : State :=
  { s with meters := s.meters.setLock meter owner }

/-! ### Responses (R140, R191) -/

/-- A frame becomes slot k's held response. -/
def State.holdFrame (s : State) (k : SlotNo) (frame : List Byte) : State :=
  s.modSlot k (fun sl => { sl with held := some frame })

/-- The response to slot k's request in hand becomes its held response (R25, R142). -/
def State.respond (s : State) (k : SlotNo) (res : Result) (reason : Option Reason) (body : List Byte) : State :=
  let c := (s.slot k).inHand.getD (0, 0)
  s.holdFrame k (responseFrame c.1 c.2 res reason body)

/-! ### The journal's store -/

/-- An entry slot's content put in its place; addresses stay in rising order. -/
def putCell : List (Nat × SlotContent) → Nat → SlotContent → List (Nat × SlotContent)
  | [], a, c => [(a, c)]
  | x :: xs, a, c =>
    if a < x.1 then (a, c) :: x :: xs
    else if a = x.1 then (a, c) :: xs
    else x :: putCell xs a c

/-- An entry slot takes a content. -/
def Journal.put (j : Journal) (a : Nat) (c : SlotContent) : Journal := { j with store := putCell j.store a c }

/-- Every entry slot of a page is blank. -/
def Journal.blankPage (j : Journal) (p : Nat) : Journal :=
  { j with store := j.store.filter (fun c => c.1 / slotsPerPage != p) }

/-- A page takes its worn mark; it is not used again (R109). -/
def Journal.wearPage (j : Journal) (p : Nat) : Journal :=
  { j.blankPage p with worn := ((List.range pageCount).filter (fun q => q == p || decide (q ∈ j.worn))) }

/-- What an erase cut short leaves of its page: each entry slot as the free value says (R135). -/
def Journal.tearPage (j : Journal) (p : Nat) (torn : Nat → TornErase) : List (Nat × SlotContent) :=
  (List.range slotsPerPage).filterMap (fun i =>
    let a := p * slotsPerPage + i
    match torn i with
    | .kept => (j.cell a).map (fun c => (a, c))
    | .blank => none
    | .halfWritten => some (a, .halfWritten))

/-- An erase that does not verify leaves its page part-erased (R124, R174): where the free value changed nothing or
blanked everything, the first entry slot is half-written (LOG 9). -/
def Journal.partErase (j : Journal) (p : Nat) (torn : Nat → TornErase) : List (Nat × SlotContent) :=
  let left := j.tearPage p torn
  if left = [] ∨ left = j.pageCells p then putCell left (p * slotsPerPage) .halfWritten else left

/-- A page's entry slots replaced by a torn page's. -/
def Journal.setPage (j : Journal) (p : Nat) (cells : List (Nat × SlotContent)) : Journal :=
  cells.foldl (fun j c => j.put c.1 c.2) (j.blankPage p)

/-! ### The entry queue (R116) -/

/-- An entry joins the queue at its tail. -/
def State.enqueue (s : State) (e : QEntry) : State :=
  { s with journal := { s.journal with queue := s.journal.queue ++ [e] } }

/-- The reserved count changed (R119). -/
def State.setReserved (s : State) (n : Nat) : State := { s with journal := { s.journal with reserved := n } }

/-- An admin request's claim: the reserved count rises by one (R119). -/
def State.claimEntry (s : State) : State := s.setReserved (s.journal.reserved + 1)

/-- An entry slot of the reserved count returned. -/
def State.returnShare (s : State) (n : Nat) : State := s.setReserved (s.journal.reserved - n)

/-- The queue entry of a slot's admin operation, in the slot's own place. -/
def adminEntry (k : SlotNo) (b : EntryBody) : QEntry := { place := .slot k, slot := k, reserved := true, body := b }

/-! ### Meter records (R61) -/

/-- The values a METER_UPDATE entry carries written into a record (R71). -/
def MeterRecord.update (r : MeterRecord) (v : UpdateValues) : MeterRecord :=
  let r := { r with schedule := v.schedule.getD r.schedule, arrears := v.arrears.getD r.arrears,
                    recovery := v.recovery.getD r.recovery, lastSeq := v.lastSeq.getD r.lastSeq }
  match v.move with
  | none => r
  | some m => { r with group := m.group, revision := m.revision, lastSeq := m.floor }

/-- VEND_OPEN's write (R13): rollover, fixed charge added, arrears subtracted. -/
def MeterRecord.openVend (r : MeterRecord) (rolled : Bool) (month fixed arrears : Nat) : MeterRecord :=
  let r := if rolled then { r with monthStamp := month, monthTenths := 0, fixed := 0, freeTaken := false } else r
  { r with fixed := r.fixed + fixed, arrears := r.arrears - arrears }

/-- A TOKEN's write (R16, R60). -/
def MeterRecord.issue (r : MeterRecord) (kind : UnitKind) (seq tenths newRevision : Nat) : MeterRecord :=
  match kind with
  | .rekeyA => { r with lastSeq := seq }
  | .rekeyB => { r with revision := newRevision, lastSeq := 0 }
  | .credit => { r with lastSeq := seq, monthTenths := min max32 (r.monthTenths + tenths) }
  | .free => { r with lastSeq := seq, freeTaken := true }

/-- A record as a change leaves it, with its applied-through (R61). -/
def MeterRecord.change (r : MeterRecord) (c : RecordChange) (n : Nat) : MeterRecord :=
  match c with
  | .opening rolled month fixed arrears => { r.openVend rolled month fixed arrears with applied := n }
  | .token kind seq tenths rev => { r.issue kind seq tenths rev with applied := n }
  | .create _ => r
  | .remove => r
  | .update v => { r.update v with applied := n }
  | .state st => { r with state := st, applied := n }

/-- A record joins the table in its place by meter number; its lock is free. -/
def insertCell : List MeterCell → MeterRecord → List MeterCell
  | [], r => [⟨r, none⟩]
  | x :: xs, r =>
    if r.number < x.record.number then ⟨r, none⟩ :: x :: xs
    else if r.number = x.record.number then ⟨r, none⟩ :: xs
    else x :: insertCell xs r

/-- The table after a record write (R55). -/
def writeCells (cells : List MeterCell) (w : MeterWrite) : List MeterCell :=
  match w.change with
  | .create r => insertCell cells { r with applied := w.number }
  | .remove => cells.filter (fun c => c.record.number != w.meter)
  | .opening _ _ _ _ | .token _ _ _ _ | .update _ | .state _ =>
    cells.map (fun c => if c.record.number = w.meter then { c with record := c.record.change w.change w.number } else c)

/-- A commit causes a record write; it stands behind the writes already owed (R55). -/
def State.oweMeterWrite (s : State) (w : MeterWrite) : State :=
  { s with meters := { s.meters with writes := s.meters.writes ++ [w] } }

/-- The first record write owed is complete. -/
def State.endMeterWrite (s : State) (w : MeterWrite) : State :=
  { s with meters := { cells := writeCells s.meters.cells w, writes := s.meters.writes.drop 1 } }

/-! ### The float (R92, R97) -/

/-- A slot's entry leaves the reservation list. -/
def FloatAccount.release (f : FloatAccount) (k : SlotNo) : FloatAccount :=
  { f with reservations := f.reservations.filter (fun r => r.slot != k) }

/-- A slot's entry leaves the reservation list with no draw. -/
def State.releaseReservation (s : State) (k : SlotNo) : State := { s with float := s.float.release k }

/-- A slot's entry joins the reservation list at its tail (R93). -/
def State.reserve (s : State) (k : SlotNo) (amount : Nat) : State :=
  { s with float := { s.float with reservations := s.float.reservations ++ [⟨k, amount⟩] } }

/-- The working copy takes a record, and its write is owed (R92). -/
def State.oweFloatWrite (s : State) (r : FloatRecord) (d : FloatDone) : State :=
  { s with float := { s.float with work := r, writes := s.float.writes ++ [⟨r, d⟩] } }

/-- The balance falls by an amount at an entry (R95, R103, R106). -/
def FloatRecord.draw (r : FloatRecord) (amount n : Nat) : FloatRecord :=
  { r with balance := r.balance - amount, applied := n }

/-- A grant reaches the record (R100). -/
def FloatRecord.grant (r : FloatRecord) (number amount ceiling expiry n : Nat) : FloatRecord :=
  { balance := r.balance + amount * 100, ceiling := ceiling, expiry := expiry, lastGrant := number, applied := n }

/-- The float is LIVE when judged now (R97). -/
def State.floatLive (s : State) : Bool :=
  s.clock.state == .running && decide (s.clock.seconds < s.float.work.expiry)

/-- The float state is judged and channel 8 set to match (R97, R96). -/
def State.judge (s : State) : State :=
  { s with
    float := { s.float with state := if s.floatLive then .live else .frozen }
    clock := s.clock.setChannel 0 (if s.floatLive then some s.float.work.expiry else none) }

/-! ### The key table -/

/-- The key table entry of a supply group. -/
def Former.entry (f : Former) (g : Nat) : KeyEntry := f.keys[Fin.ofNat 4 g]

/-- The key table entry of a supply group changed. -/
def State.modKey (s : State) (g : Nat) (f : KeyEntry → KeyEntry) : State :=
  { s with former := { s.former with keys := s.former.keys.set (Fin.ofNat 4 g) (f (s.former.entry g)) } }

/-- The current revision of a group; none while it has never been loaded (R80). -/
def State.currentRevision (s : State) (g : Nat) : Option Nat := (s.former.entry g).current.map (·.revision)

/-- The current revision of a group in its byte; 0xFF for none and for a group that does not exist (LOG 18). -/
def State.revisionByteOf (s : State) (g : Nat) : List Byte :=
  if g ≤ 3 then revisionBytes (s.former.entry g).current else revisionBytes none

/-- The install write (R84): the current generation becomes previous, the stage becomes current. -/
def KeyEntry.install (e : KeyEntry) (n : Nat) : KeyEntry :=
  match e.stage with
  | none => e
  | some g => { e with previous := e.current, current := some g, stage := none, applied := n }

/-- The key material an entry holds for a revision (R79); no material where it holds none (LOG 26). -/
def KeyEntry.material (e : KeyEntry) (revision : Nat) : BitVec 128 :=
  match e.current, e.previous with
  | some c, some p => if c.revision = revision then c.material else if p.revision = revision then p.material else 0
  | some c, none => if c.revision = revision then c.material else 0
  | none, _ => 0

/-! ### Schedules -/

/-- The schedule a TARIFF_LOAD describes (R34, R37). -/
def Schedule.ofBody (b : TariffBody) (n : Nat) (loading : Bool) : Schedule :=
  { steps := b.positions.dropLast.map (fun p => ⟨p.threshold, p.price⟩)
    lastPrice := (b.positions.getLast?.map (·.price)).getD 0
    fixed := b.fixed, allowance := b.allowance, cap := b.cap, maxTender := b.maxTender, applied := n
    loading := loading }

/-- The schedule of a number. -/
def Tariff.schedule (t : Tariff) (n : Nat) : Schedule := t.schedules[Fin.ofNat 8 n]

/-- A schedule changed. -/
def State.modSchedule (s : State) (n : Nat) (f : Schedule → Schedule) : State :=
  { s with tariff := { s.tariff with schedules := s.tariff.schedules.set (Fin.ofNat 8 n) (f (s.tariff.schedule n)) } }

/-! ### Till totals (R150) -/

/-- The totals after a vend closes; a figure stays at its largest value. -/
def Till.add (t : Till) (tender change undelivered : Nat) : Till :=
  { closed := min max32 (t.closed + 1)
    tender := min (2 ^ 40 - 1) (t.tender + tender)
    change := min (2 ^ 40 - 1) (t.change + change)
    undelivered := min (2 ^ 48 - 1) (t.undelivered + undelivered) }

end Sys2Proof.Machine
end

