-- ==== Sys2Proof/Machine/Endings.lean ====
section
/-! DEFINITION. How work on a slot ends: the end of a vend or admin request with its pending unbind, the close of a vend,
its ends REFUSED and by store fault, overtaking, the refusal of an admin request, FAILED mode, the return to RUN. -/

namespace Sys2Proof.Machine

/-- The code byte of UNBIND, which a slot made WORKING by an unbind reports with sequence 0 (R139). -/
def unbindInHand : Byte × Byte := (RequestCode.unbind.byte, 0)

/-- The reason fields a refusal of an admin request carries besides its reason (R193). -/
def State.lateBody (s : State) (a : AdminOp) : List Byte :=
  match a.entry with
  | some (.keyLoad g _) => s.revisionByteOf g
  | some (.grant _ _ _ _) => beBytes 4 s.float.work.lastGrant
  | some (.clockSet _ _ _) => s.clock.bytes
  | _ => []

/-- Slot k has no vend and no admin operation left, and its response is held. With an unbind pending it stays WORKING
and the UNBIND's entry joins the queue, or in FAILED mode the UNBIND is refused STORE_FAULT and its own slot's work has
ended too (R29, R147, R149). Otherwise it becomes IDLE (R142). The fuel bounds the chain of unbinds. -/
def State.finishWork : Nat → State → SlotNo → State
  | 0, s, _ => s
  | fuel + 1, s, k =>
    match (s.slot k).pendingChange with
    | some (.unbindBy j) =>
      match s.journal.mode with
      | .normal =>
        let s := s.modSlot k (fun sl => { sl with state := .working, inHand := some unbindInHand })
        let s := s.modSlot j (fun sl => { sl with admin := some ⟨some (.unbind k), .queued⟩ })
        s.enqueue (adminEntry j (.unbind k))
      | .failed =>
        let s := s.modSlot k (fun sl => { sl with state := .idle, inHand := none, pendingChange := none })
        let s := s.respond j .refused (some .storeFault) []
        let s := (s.modSlot j (fun sl => { sl with admin := none })).returnShare 1
        State.finishWork fuel s j
    | some (.bindBy _) => s.modSlot k (fun sl => { sl with state := .idle, inHand := none })
    | none => s.modSlot k (fun sl => { sl with state := .idle, inHand := none })

/-- The work of slot k has ended. -/
def State.endWork (s : State) (k : SlotNo) : State := State.finishWork 8 s k

/-! ### Vends -/

/-- The slot's vend enters CLOSING and its VEND_END joins the queue in the slot's own place (R22, R23, R26). -/
def State.closeVend (s : State) (k : SlotNo) (v : Vend) (e : Ending) (r : Option Reason) : State :=
  let v' := { v with phase := .closing, ending := some (e, r), pendingEnding := none }
  let s := s.modSlot k (fun sl => { sl with vend := some v' })
  s.enqueue { place := .slot k, slot := k, reserved := true
              body := .vendEnd ⟨v.number.getD 0, e, r, v.issued, v.undelivered⟩ }

/-- The vend record is removed and the last ending set (R24, R28, R31, R32). -/
def State.removeVend (s : State) (k : SlotNo) (l : LastEnding) : State :=
  s.modSlot k (fun sl => { sl with vend := none, lastEnding := some l })

/-- The vend ends REFUSED before its VEND_OPEN program began (R28). -/
def State.endRefused (s : State) (k : SlotNo) (v : Vend) (r : Reason) : State :=
  let s := ((s.returnShare v.share).releaseReservation k).setLock v.meter none
  let s := s.respond k .refused (some r) (beBytes 4 v.receipt)
  (s.removeVend k ⟨none, .refused, some r, v.issued, v.undelivered⟩).endWork k

/-- The vend ends PARTIAL STORE_FAULT in volatile state (R31). -/
def State.endStoreFault (s : State) (k : SlotNo) (v : Vend) : State :=
  let s := ((s.returnShare v.share).releaseReservation k).setLock v.meter none
  let s := s.respond k .ended (some .storeFault) v.endedBytes
  let s := s.setChannel k none
  let s := s.modSlot k (fun sl => { sl with till := sl.till.add v.plan.tender v.plan.change v.undelivered })
  (s.removeVend k ⟨v.number, .partly, some .storeFault, v.issued, v.undelivered⟩).endWork k

/-- The vend takes an overtaking as a pending ending (R26). -/
def State.setPendingEnding (s : State) (k : SlotNo) (v : Vend) (r : Reason) : State :=
  s.modSlot k (fun sl => { sl with vend := some { v with pendingEnding := some r } })

/-- The unit in FORMING is discarded (R14). -/
def State.discardUnit (s : State) (u : UnitInProgress) : State :=
  { s with engine := { s.engine with unit := some { u with discarded := true } } }

/-- A VEND_OPEN is withdrawn from the queue (R26, R116). -/
def State.withdrawOpen (s : State) (k : SlotNo) : State :=
  { s with journal := { s.journal with queue := s.journal.queue.filter (fun e => e.place != .slot k) } }

/-- An overtaking acts on slot k's vend by its stage (R26, R27). -/
def State.overtake (s : State) (k : SlotNo) (r : Reason) : State :=
  match (s.slot k).vend with
  | none => s
  | some v =>
    if v.pendingEnding.isSome then s
    else
      match v.phase with
      | .closing => s
      | .opening =>
        if v.number.isSome then s.setPendingEnding k v r
        else if !v.openQueued then s.endRefused k v r
        else if s.journal.openWithdrawable k then (s.withdrawOpen k).endRefused k v r
        else s.setPendingEnding k v r
      | .issuing =>
        match s.engine.unitOf k with
        | some u =>
          match u.stage with
          | .forming => (s.discardUnit u).closeVend k v .partly (some r)
          | .committing => s.setPendingEnding k v r
          | .applying => s.setPendingEnding k v r
        | none =>
          let s := (s.setChannel k none).modSlot k (fun sl => { sl with state := .working })
          s.closeVend k v .partly (some r)

/-! ### Admin requests -/

/-- An unbind of slot t is pending no more; with no vend and no admin operation the slot is IDLE again (R149). -/
def State.releaseTarget (s : State) (t : SlotNo) : State :=
  s.modSlot t (fun sl =>
    let sl := { sl with pendingChange := none }
    if sl.vend.isNone ∧ sl.admin.isNone then { sl with state := .idle, inHand := none } else sl)

/-- What a refused admin request had claimed is given back: flags, lock, reservation, mark on its target
(R40, R63, R85, R103, R145, R149). -/
def State.releaseClaims (s : State) (b : EntryBody) : State :=
  match b with
  | .tariffLoad b => s.modSchedule b.schedule (fun x => { x with loading := false })
  | .keyLoad g _ => s.modKey g (fun x => { x with loading := false })
  | .retire m => s.setLock m none
  | .meterUpdate m _ => s.setLock m none
  | .meterHold m _ => s.setLock m none
  | .recall _ => s.releaseReservation 0
  | .bind e => s.modSlot e.target (fun sl => { sl with pendingChange := none })
  | .unbind t => s.releaseTarget t
  | .vendOpen _ => s
  | .token _ => s
  | .vendEnd _ => s
  | .grant _ _ _ _ => s
  | .enrol _ => s
  | .clockSet _ _ _ => s
  | .shiftClose _ => s
  | .start _ _ _ => s

/-- The admin request of slot k is refused after its checks: its claims and its entry slot are returned, its operation
is removed, and the slot's work has ended. -/
def State.refuseAdmin (s : State) (k : SlotNo) (a : AdminOp) (r : Reason) : State :=
  let s := s.respond k .refused (some r) (s.lateBody a)
  let s := (s.modSlot k (fun sl => { sl with admin := none })).returnShare 1
  (a.entry.elim s s.releaseClaims).endWork k

/-! ### FAILED mode (R31, R126) -/

/-- What FAILED mode does to the unit in progress: FORMING is discarded, COMMITTING is dropped, APPLYING goes on. -/
def Engine.failUnit (e : Engine) : Engine :=
  match e.unit with
  | none => e
  | some u =>
    match u.stage with
    | .forming => { e with unit := some { u with discarded := true } }
    | .committing => { e with unit := none }
    | .applying => e

/-- The slot's unit is in APPLYING: its TOKEN has committed and its record write is under way. -/
def Engine.applying (e : Engine) (k : SlotNo) : Bool :=
  match e.unit with
  | none => false
  | some u => u.slot == k && u.stage == .applying

/-- What FAILED mode does to one slot: its vend ends, unless its unit is in APPLYING; its admin request is refused,
unless its entry has committed, or it is a SETTLE, or an UNBIND that waits for its target. -/
def State.failSlot (s : State) (k : SlotNo) : State :=
  match (s.slot k).vend with
  | some v =>
    if s.engine.applying k then s
    else if v.number.isNone then s.endRefused k v .storeFault
    else s.endStoreFault k v
  | none =>
    match (s.slot k).admin with
    | none => s
    | some a =>
      match a.phase with
      | .queued => s.refuseAdmin k a .storeFault
      | .staging _ => s.refuseAdmin k a .storeFault
      | .waiting => s
      | .writing => s
      | .header => s

/-- The slots in order of number. -/
def slotList : List SlotNo := [0, 1, 2, 3, 4, 5, 6, 7]

/-- The part enters RUN. -/
def State.enterRun (s : State) : State := { s with watch := { s.watch with part := .run } }

/-- The part leaves HOLDUP when the warning is clear and the queue is empty (R170). -/
def State.returnToRun (s : State) : State :=
  if s.watch.part = .holdup ∧ s.watch.warning = false ∧ s.journal.queue = [] then s.enterRun else s

/-- The scan has taken its last step: the float is judged, and the part enters RUN if the warning is clear (R178). -/
def State.scanFinish (s : State) : State :=
  let s := s.judge
  let s := { s with watch := { s.watch with scan := { s.watch.scan with stage := .ended } } }
  if s.watch.warning then s else s.enterRun

/-- The Journal drops its queue and is in FAILED mode. -/
def Journal.fail (j : Journal) : Journal :=
  { j with mode := .failed, queue := [], failedOnce := false, op := .idle }

/-- The Journal enters FAILED mode (R126): the queue is dropped, every promise ended, the reserved count 0. In STARTING
the scan goes on to its end (R179); in HOLDUP the queue is now empty (R170). -/
def State.enterFailed (s : State) : State :=
  let s := { s with journal := s.journal.fail, engine := s.engine.failUnit }
  let s := (slotList.foldl State.failSlot s).setReserved 0
  if s.watch.part = .starting then s.scanFinish else s.returnToRun

end Sys2Proof.Machine
end

