-- ==== Sys2Proof/Machine/Engine.lean ====
section
/-! DEFINITION. The Vend Engine's grants (R11, R12, R14) and the plain token record the Token Former builds (R73 to R75). -/

namespace Sys2Proof.Machine

/-- The sum of the lowest `n` groups of 4 bits of a number. -/
def nibbleSum : Nat → Nat → Nat
  | 0, _ => 0
  | n + 1, x => x % 16 + nibbleSum n (x / 16)

/-- The check of a plain token record over its first 68 bits (R74). -/
def tokenCheck (body : Nat) : Nat := (16 - nibbleSum 17 body % 16) % 16

/-- The plain token record (R73). -/
def plainRecord (kind : UnitKind) (seq payload day newRevision : Nat) : BitVec 72 :=
  let body := (((kind.code * 2 ^ 16 + seq) * 2 ^ 32 + payload) * 2 ^ 12 + day) * 2 ^ 4 + newRevision
  BitVec.ofNat 72 (body * 16 + tokenCheck body)

/-- The payload of a unit (R75): its tenths, or one half of the meter key of the group's current revision. -/
def unitPayload (u : PlanUnit) (newKey : BitVec 64) : Nat :=
  match u.kind with
  | .credit => u.tenths
  | .free => u.tenths
  | .rekeyA => newKey.toNat / 2 ^ 32
  | .rekeyB => newKey.toNat % 2 ^ 32

/-- The new revision field (R73): the group's current revision for a rekey unit, zero otherwise. -/
def unitRevision (u : PlanUnit) (current : Nat) : Nat :=
  match u.kind with
  | .credit => 0
  | .free => 0
  | .rekeyA => current
  | .rekeyB => current

/-- The transform a unit grant begins (R14, R79): plain record, meter key, and the record's revision. -/
def State.transformFor (s : State) (r : MeterRecord) (u : PlanUnit) : Transform :=
  let e := s.former.entry r.group
  let current := (e.current.map (·.revision)).getD 0
  let newKey := Config.meterKey (e.material current) r.number
  { plain := plainRecord u.kind (r.lastSeq + 1) (unitPayload u newKey) s.clock.day (unitRevision u current)
    key := Config.meterKey (e.material r.revision) r.number
    revision := r.revision }

/-- A unit grant (R14). -/
def State.grantUnit (s : State) (k : SlotNo) (v : Vend) : State :=
  match v.plan.units[v.issued]?, s.meters.lookup v.meter with
  | some u, some c =>
    { s with
      engine := ⟨k, some ⟨k, v.issued, c.record.lastSeq + 1, .forming, false⟩⟩
      former := { s.former with transform := some (s.transformFor c.record u) } }
  | _, _ => s

/-- The VEND_OPEN entry of a vend (R12). -/
def Vend.openEntry (v : Vend) : OpenEntry :=
  { meter := v.meter, tender := v.plan.tender, fixed := v.plan.fixed, arrears := v.plan.arrears,
    change := v.plan.change, retained := v.plan.retained, tenths := v.plan.tenths, value := v.plan.value,
    planned := v.plan.units.length, month := v.plan.month }

/-- An opening turn (R12): the VEND_OPEN joins the queue and the engine is idle again. -/
def State.openingTurn (s : State) (k : SlotNo) (v : Vend) : State :=
  let s := { s with engine := ⟨k, none⟩ }
  let s := s.modSlot k (fun sl => { sl with vend := some { v with openQueued := true } })
  s.enqueue { place := .slot k, slot := k, reserved := true, body := .vendOpen v.openEntry }

/-- One grant of the engine (R11); none when it makes none. -/
def State.grant? (s : State) : Option State :=
  if s.watch.part = .run ∧ s.engine.unit = none then
    match (searchOrder s.engine.position).find? s.hasWork with
    | none => none
    | some k =>
      match (s.slot k).vend with
      | none => none
      | some v =>
        match v.phase with
        | .opening => some (s.openingTurn k v)
        | .issuing => some (s.grantUnit k v)
        | .closing => none
  else none

/-- The engine grants until it is busy or no slot has work; at most seven opening turns come before a unit. -/
def State.grants : Nat → State → State
  | 0, s => s
  | n + 1, s =>
    match s.grant? with
    | none => s
    | some s' => State.grants n s'

/-- The Vend Engine looks for a grant (R11). -/
def State.engineLook (s : State) : State := State.grants 8 s

end Sys2Proof.Machine
end

