-- ==== Sys2Proof/Machine/Scan.lean ====
section
/-! DEFINITION. The recovery scan (R172 to R180), what the Journal begins when it looks (R117, R122, R123, R179), and
`proceed`, which does both and lets the engine look. -/

namespace Sys2Proof.Machine

/-! ### Step 1: reading the store (R173) -/

/-- Every written entry slot, judged by its check (R113), with its address. -/
def Journal.written (j : Journal) : List (Nat × Entry) :=
  (judgedSlots j.store).filterMap (fun c => match c.2 with
    | .written e => some (c.1, e)
    | .void => none
    | .halfWritten => none)

/-- The highest entry and its address (R173). -/
def Journal.highest (j : Journal) : Option (Nat × Entry) :=
  j.written.foldl (fun best c => match best with
    | none => some c
    | some b => if b.2.number < c.2.number then some c else some b) none

/-- An entry slot is void or half-written. -/
def Journal.torn (j : Journal) (a : Nat) : Bool :=
  match j.content a with
  | some .void => true
  | some .halfWritten => true
  | some (.written _) => false
  | none => false

/-- The run of void and half-written entry slots of a page from an offset on. -/
def Journal.tornRun (j : Journal) (p offset : Nat) : List Nat :=
  ((List.range' offset (slotsPerPage - offset)).map (fun i => p * slotsPerPage + i)).takeWhile j.torn

/-- The next page in circular order that is not WORN (R110). -/
def Journal.nextPage (j : Journal) (p : Nat) : Nat :=
  ((circularFrom (some p)).find? (fun q => decide (q ∉ j.worn))).getD p

/-- The trail on the pages after the highest entry's page (R173): a page holds trail slots only when every entry slot
of it after them is blank. -/
def Journal.trailPages (j : Journal) : Nat → Nat → List Nat
  | 0, _ => []
  | fuel + 1, p =>
    let run := j.tornRun p 0
    if run.length ≠ (j.pageSlots p).length then []
    else if run.length = slotsPerPage then run ++ j.trailPages fuel (j.nextPage p)
    else run

/-- The trail (R173). -/
def Journal.trail (j : Journal) : List Nat :=
  match j.highest with
  | none => []
  | some h =>
    let p := h.1 / slotsPerPage
    let offset := h.1 % slotsPerPage + 1
    let run := j.tornRun p offset
    if offset + run.length = slotsPerPage then run ++ j.trailPages (pageCount - 1) (j.nextPage p) else run

/-- The tail found by the scan (R173). -/
def Journal.scanTail (j : Journal) : Option Nat :=
  match j.trail.getLast? with
  | some a => some (a / slotsPerPage)
  | none => j.highest.map (fun h => h.1 / slotsPerPage)

/-- The half-written entry slots of the trail, which step 1 voids. -/
def Journal.toVoid (j : Journal) : List Nat := j.trail.filter (fun a => j.content a == some .halfWritten)

/-! ### Step 2: part-erased pages (R174) -/

/-- A page is wholly written or void. -/
def Journal.whole (j : Journal) (p : Nat) : Bool :=
  (j.pageSlots p).length == slotsPerPage && (j.pageSlots p).all (fun c => c.2 != .halfWritten)

/-- The part-erased pages. -/
def Journal.partErased (j : Journal) : List Nat :=
  (List.range pageCount).filter (fun p =>
    decide (p ∉ j.worn) && decide (j.scanTail ≠ some p) && j.trail.all (fun a => a / slotsPerPage != p) &&
      decide (j.pageSlots p ≠ []) && !j.whole p)

/-! ### Steps 3 and 4: state and replay (R175, R176) -/

/-- The scan stands at a stage. -/
def State.setStage (s : State) (st : ScanStage) : State :=
  { s with watch := { s.watch with scan := { s.watch.scan with stage := st } } }

/-- The Journal's state set from the store (R175). -/
def State.setJournalState (s : State) : State :=
  let last := (s.journal.highest.map (fun h => h.2.number)).getD 0
  { s with
    journal := { s.journal with last := last, tail := s.journal.scanTail }
    clock := match s.watch.startKind with
      | .cold => { s.clock with taken := last }
      | .warm => s.clock }

/-- A record write caused by a replayed entry. -/
def State.replayMeter (s : State) (meter n : Nat) (c : MeterRecord → RecordChange) : Option State :=
  match s.meters.lookup meter with
  | none => none
  | some cell =>
    if cell.record.applied < n then some (s.oweMeterWrite ⟨.replay, meter, c cell.record, n⟩) else none

/-- A float record write caused by a replayed entry (R105). -/
def State.replayFloat (s : State) (n : Nat) (r : FloatRecord) : Option State :=
  if s.float.work.applied < n then some (s.oweFloatWrite r .nothing) else none

/-- The energy value of the VEND_OPEN with a journal number. -/
def Journal.openValue (j : Journal) (vend : Nat) : Nat :=
  match j.entry? vend with
  | none => 0
  | some e => match e.body with
    | .vendOpen o => o.value
    | _ => 0

/-- A CLOCK_SET above the running clock's taken-through, at a warm reset (R165). -/
def Clock.replay (c : Clock) (old new month n : Nat) : Clock :=
  match c.state with
  | .unset => { c with state := .running, seconds := new, month := month, taken := n }
  | .running => { c with seconds := min max32 (c.seconds + new - old), month := month, taken := n }

/-- A replayed CLOCK_SET (R165): the settings, and at a warm reset the running clock. -/
def State.replayClock (s : State) (old new month n : Nat) : Option State :=
  if s.clock.settingsApplied < n then
    let clock := if s.watch.startKind = .warm ∧ s.clock.taken < n then s.clock.replay old new month n else s.clock
    some { s with clock := { clock with settingsWrite := some ⟨month, n, none, .frozen, false⟩ } }
  else none

/-- An entry offered to the owners of its records (R176): the state with the write it causes, or none. An ENROL creates its
record whatever the count of the table is then (R62; LOG 37, the model's choice). -/
def State.replay? (s : State) (e : Entry) : Option State :=
  match e.body with
  | .vendOpen o => s.replayMeter o.meter e.number (fun r => .opening (r.monthStamp != o.month) o.month o.fixed o.arrears)
  | .token t => s.replayMeter t.meter e.number (fun _ => .token t.kind t.seq t.tenths ((t.revision + 1) % 16))
  | .enrol r =>
    match s.meters.lookup r.number with
    | some _ => none
    | none => some (s.oweMeterWrite ⟨.replay, r.number, .create r, e.number⟩)
  | .retire m => s.replayMeter m e.number (fun _ => .remove)
  | .meterUpdate m v => s.replayMeter m e.number (fun _ => .update v)
  | .meterHold m st => s.replayMeter m e.number (fun _ => .state st)
  | .grant g a c x => s.replayFloat e.number (s.float.work.grant g a c x e.number)
  | .recall a => s.replayFloat e.number (s.float.work.draw (a * 100) e.number)
  | .vendEnd d =>
    s.replayFloat e.number (s.float.work.draw (s.journal.openValue d.vend - d.undelivered) e.number)
  | .keyLoad g r =>
    let entry := s.former.entry g
    if entry.applied < e.number ∧ entry.stage.map (·.revision) = some r then
      some { s with former := { s.former with keyWrite := some (.install (Fin.ofNat 4 g) e.number) } }
    else none
  | .tariffLoad b =>
    if (s.tariff.schedule b.schedule).applied < e.number then
      some { s with tariff := { s.tariff with write := some (b, e.number) } }
    else none
  | .clockSet o n m => s.replayClock o n m e.number
  | .bind _ => none
  | .unbind _ => none
  | .shiftClose _ => none
  | .start _ _ _ => none

/-- An entry has caused a write: it is counted, and the entries after it wait for the write (R176). -/
def State.countReplay (s : State) (rest : List Entry) : State :=
  { s with watch := { s.watch with scan :=
      { s.watch.scan with stage := .replaying rest, replayed := s.watch.scan.replayed + 1 } } }

/-! ### Steps 5 and 6: open vends and START (R177, R178) -/

/-- The TOKEN entries of a vend in the store. -/
def Journal.tokensOf (j : Journal) (vend : Nat) : List TokenEntry :=
  j.entries.filterMap (fun e => match e.body with
    | .token t => if t.vend = vend then some t else none
    | _ => none)

/-- A VEND_END of the vend is in the store. -/
def Journal.ended (j : Journal) (vend : Nat) : Bool :=
  j.entries.any (fun e => match e.body with
    | .vendEnd d => d.vend == vend
    | _ => false)

/-- The first open vend in journal order: its VEND_OPEN entry and the plan figures it carries (R177). -/
def Journal.openVend? (j : Journal) : Option (Entry × OpenEntry) :=
  j.entries.findSome? (fun e => match e.body with
    | .vendOpen o => if j.ended e.number then none else some (e, o)
    | _ => none)

/-- The INTERRUPTED VEND_END of an open vend (R177). -/
def Journal.closingEntry (j : Journal) (e : Entry) (o : OpenEntry) : QEntry :=
  let tokens := j.tokensOf e.number
  { place := .slot e.slot, slot := e.slot, reserved := false
    body := .vendEnd ⟨e.number, .interrupted, none, tokens.length, o.value - (tokens.map (·.value)).sum⟩ }

/-- The START entry joins the queue in slot 0's place (R178). -/
def State.placeStart (s : State) : State :=
  (s.setStage .starting).enqueue
    { place := .slot 0, slot := 0, reserved := false
      body := .start s.watch.startKind s.watch.scan.replayed s.watch.scan.closed }

/-- Step 5: the next open vend's VEND_END, or the START entry when none is open. -/
def State.scanClose (s : State) : State :=
  match s.journal.openVend? with
  | some (e, o) => (s.setStage .closing).enqueue (s.journal.closingEntry e o)
  | none => s.placeStart

/-- The group whose stage the scan clears next (R86): the lowest that holds one. The spec names no order among the groups
(LOG 30, the model's choice). -/
def Former.staged (f : Former) : Option (Fin 4) := ([0, 1, 2, 3] : List (Fin 4)).find? (fun g => f.keys[g].stage.isSome)

/-- The end of step 4: the stages are cleared one by one (R86); at a cold start the clock takes its month index from
the settings (R156). -/
def State.scanClear (s : State) : State :=
  match s.former.staged with
  | some g => { s.setStage .clearing with former := { s.former with keyWrite := some (.clear g) } }
  | none =>
    let s := match s.watch.startKind with
      | .cold => { s with clock := { s.clock with month := s.clock.settingsMonth } }
      | .warm => s
    s.scanClose

/-- Step 4: entries are offered until one causes a write. -/
def State.scanReplay (s : State) : List Entry → State
  | [] => s.scanClear
  | e :: rest =>
    match s.replay? e with
    | some s' => s'.countReplay rest
    | none => s.scanReplay rest

/-- Step 2 page by page, then steps 3 and 4. -/
def State.scanErase (s : State) : List Nat → State
  | p :: rest => { s.setStage (.erasing (p :: rest)) with journal := { s.journal with op := .erase p } }
  | [] =>
    let s := s.setJournalState
    s.scanReplay s.journal.entries

/-- The end of step 1 entry slot by entry slot, then step 2. -/
def State.scanVoid (s : State) : List Nat → State
  | a :: rest => { s.setStage (.voiding (a :: rest)) with journal := { s.journal with op := .voidMark a } }
  | [] => s.scanErase s.journal.partErased

/-- No write of a record is under way. -/
def State.noWrites (s : State) : Bool :=
  s.meters.writes.isEmpty && s.float.writes.isEmpty && s.tariff.write.isNone && s.clock.settingsWrite.isNone &&
    s.former.keyWrite.isNone

/-- The scan goes on from where it stands, unless the warning pauses it (R180) or an operation of it is under way. -/
def State.scanAdvance (s : State) : State :=
  if s.watch.warning then s
  else
    match s.watch.scan.stage with
    | .notBegun => s
    | .readStore => s.scanVoid s.journal.toVoid
    | .voiding rest => if s.journal.op = .idle then s.scanVoid rest else s
    | .erasing rest => if s.journal.op = .idle then s.scanErase rest else s
    | .replaying rest => if s.noWrites then s.scanReplay rest else s
    | .clearing => if s.noWrites then s.scanClear else s
    | .closing => if s.journal.queue = [] then s.scanClose else s
    | .starting => s
    | .ended => s

/-! ### What the Journal begins -/

/-- The time an entry takes when its program begins (R113, R157). -/
def Clock.entryTime (c : Clock) : Nat :=
  match c.state with
  | .unset => 0
  | .running => c.seconds

/-- The scan is paused: the Journal begins no operation for it (R180). -/
def State.paused (s : State) : Bool := s.watch.part == .starting && s.watch.warning

/-- A program of the head entry begins in an entry slot (R117); its page is FILLING and the tail (R110). -/
def State.beginProgram (s : State) (a : Nat) : State :=
  { s with journal := { s.journal with
      op := .program a (s.journal.last + 1) s.clock.entryTime, tail := some (a / slotsPerPage) } }

/-- An erase of a page begins (R122, R123). -/
def State.beginErase (s : State) (p : Nat) : State := { s with journal := { s.journal with op := .erase p } }

/-- The head of the queue looks for its program, or for a forced erase (R117, R123, R111, R179). -/
def State.headLook (s : State) : State :=
  match s.journal.slotAtHand with
  | some a => if s.journal.last = max32 then s.enterFailed else s.beginProgram a
  | none =>
    match s.journal.oldestSettled with
    | some p => if s.applyHold then s else s.beginErase p
    | none => if s.watch.part = .starting then s.enterFailed else s

/-- A trigger erase, when R122 holds. -/
def State.triggerLook (s : State) : State :=
  if s.watch.part = .run ∧ s.applyHold = false ∧ s.journal.erasedPages < 4 then
    match s.journal.oldestSettled with
    | some p => s.beginErase p
    | none => s
  else s

/-- The Journal looks for an operation to begin: a program, a forced erase or a trigger erase. -/
def State.journalLook (s : State) : State :=
  if s.journal.mode = .normal ∧ s.journal.op = .idle ∧ s.paused = false then
    match s.journal.queue with
    | _ :: _ => s.headLook
    | [] => s.triggerLook
  else s

/-- What the part's blocks do on their own after an event: the scan goes on, the engine looks, the Journal looks. In RUN
the engine's look comes before the Journal's, so that an opening turn's VEND_OPEN stands in the queue when the Journal
looks for a trigger erase; the spec gives that order for the entry into RUN alone (R170, R178; LOG 32, the model's choice
for every other event). -/
def State.proceed (s : State) : State :=
  match s.watch.part with
  | .starting => s.scanAdvance.journalLook
  | .run => s.engineLook.journalLook
  | .holdup => s.journalLook

end Sys2Proof.Machine
end

