-- ==== Sys2Proof/Machine/Requests.lean ====
section
/-! DEFINITION. How a request is taken: the end of its write, the handing of its frame (R184), the checks of R141, the two
sorts of request of R142, and the shapes that requests share. -/

namespace Sys2Proof.Machine

/-- The port answers: supply holds and the reset line is clear (R181). -/
def State.answering (s : State) : Bool := s.watch.supply && !s.watch.resetLine

/-- A write of slot k has ended: the port is FREE and the request buffer empty (R184). -/
def State.endWrite (s : State) (k : SlotNo) : State :=
  { s with port := { s.port with target := .free, buffers := s.port.buffers.set k [] } }

/-- The open write whose frame is this request: its slot and the slot's state at its address byte. -/
def State.writeOf (s : State) (i : Instr) : Option (SlotNo × SlotState) :=
  match s.port.target with
  | .write k at0 false => if s.answering ∧ parseFrame s.port.buffers[k] = some i then some (k, at0) else none
  | .write _ _ true => none
  | .free => none
  | .read _ _ _ _ => none
  | .passed => none

/-- The permission item that allows a request; none for a query (R137). -/
def RequestCode.item : RequestCode → Option PermItem
  | .status => none | .meterQuery => none | .floatQuery => none
  | .vend => some .vend | .continueVend => some .vend | .abandon => some .vend
  | .reprint => some .reprint | .shiftClose => some .shiftClose
  | .bind => some .bind | .unbind => some .bind | .meterHold => some .meterHold
  | .enrol => some .settlement | .retire => some .settlement | .meterUpdate => some .settlement
  | .tariffLoad => some .settlement | .keyLoad => some .settlement | .grantOpen => some .settlement
  | .grant => some .settlement | .recall => some .settlement | .clockSet => some .settlement
  | .journalRead => some .crossRead | .settle => some .settlement

/-- The request is CONTINUE or ABANDON. -/
def RequestCode.forHeld : RequestCode → Bool
  | .continueVend => true
  | .abandon => true
  | _ => false

/-- The request is one that HELD admits besides CONTINUE and ABANDON. -/
def RequestCode.forBoth : RequestCode → Bool
  | .reprint => true
  | .status => true
  | .meterQuery => true
  | .floatQuery => true
  | _ => false

/-- A slot state admits a request (R141, step 4). -/
def SlotState.admits (st : SlotState) (c : RequestCode) : Bool :=
  match st with
  | .idle => !RequestCode.forHeld c
  | .held => RequestCode.forHeld c || RequestCode.forBoth c
  | .working => false
  | .unbound => false

/-- Steps 2 to 4 of R141. -/
def Slot.checks (sl : Slot) (c : RequestCode) (h : Header) : List (Bool × Reason) :=
  [(h.tag == sl.tag, .tagMismatch), ((RequestCode.item c).elim true (holdsItem sl.perms), .notPermitted),
   (sl.state.admits c, .wrongState)]

/-- The body a refusal of a request carries (R193). -/
def State.refusalBody (s : State) (k : SlotNo) (i : Instr) (r : Reason) : List Byte :=
  match i with
  | .vend _ b => beBytes 4 b.receipt
  | .continueVend _ _ =>
    if r = .wrongState ∧ (s.slot k).state = .idle then lastEndingBytes (s.slot k).lastEnding else []
  | .abandon _ _ =>
    if r = .wrongState ∧ (s.slot k).state = .idle then lastEndingBytes (s.slot k).lastEnding else []
  | .keyLoad _ b => s.revisionByteOf b.group
  | .grant _ _ => beBytes 4 s.float.work.lastGrant
  | .clockSet _ _ _ => s.clock.bytes
  | _ => []

/-- A request answered within the handling of its frame (R140): the response is held, the slot's state stays. -/
def State.answer (s : State) (k : SlotNo) (i : Instr) (res : Result) (r : Option Reason) (body : List Byte) : State :=
  match i.request with
  | none => s
  | some (c, h) => s.holdFrame k (responseFrame c.byte h.seq res r body)

/-- A request refused within the handling of its frame. -/
def State.answerRefused (s : State) (k : SlotNo) (i : Instr) (r : Reason) : State :=
  s.answer k i .refused (some r) (s.refusalBody k i r)

/-- A refusal written to the unbound notice (R138, R139). -/
def State.setNotice (s : State) (k : SlotNo) (n : Notice) : State := s.modSlot k (fun sl => { sl with notice := some n })

/-- At the acceptance of a request on a bound slot in IDLE or HELD its unbound notice is cleared (R140). -/
def State.clearNotice (s : State) (k : SlotNo) : State :=
  match (s.slot k).state with
  | .idle => s.modSlot k (fun sl => { sl with notice := none })
  | .held => s.modSlot k (fun sl => { sl with notice := none })
  | .working => s
  | .unbound => s

/-- A request: the end of the write whose frame it is. The frame is handed (R184) and the checks of R141 are made; a
request that passes them is carried out by `run`. With no such write open the event does not occur (LOG 1). -/
def State.take (s : State) (i : Instr) (run : State → SlotNo → State) : State :=
  match i.request, s.writeOf i with
  | some (c, h), some (k, at0) =>
    let s := s.endWrite k
    if at0 = .unbound ∨ (s.slot k).state = .unbound then s.setNotice k ⟨c.byte, h.seq, .notBound⟩
    else
      let s := s.clearNotice k
      match firstFailed ((s.slot k).checks c h) with
      | some r => s.answerRefused k i r
      | none => run s k
  | _, _ => s

/-- A request makes its slot WORKING: the held response is emptied and it is the request in hand (R140, R142). -/
def State.accept (s : State) (k : SlotNo) (i : Instr) : State :=
  match i.request with
  | none => s
  | some (c, h) => s.modSlot k (fun sl => { sl with state := .working, held := none, inHand := some (c.byte, h.seq) })

/-- A request that made its slot WORKING fails a check of its own: REFUSED, and the slot is IDLE (R142). -/
def State.refuse (s : State) (k : SlotNo) (i : Instr) (r : Reason) : State :=
  (s.respond k .refused (some r) (s.refusalBody k i r)).modSlot k (fun sl => { sl with state := .idle, inHand := none })

/-- A request answered at once: its own checks, then its DONE. -/
def State.takeQuery (s : State) (i : Instr) (checks : State → SlotNo → List (Bool × Reason))
    (body : State → SlotNo → List Byte) : State :=
  s.take i (fun s k =>
    match firstFailed (checks s k) with
    | some r => s.answerRefused k i r
    | none => s.answer k i .done none (body s k))

/-- A request that makes its slot WORKING: its own checks, then what it does when they pass. -/
def State.takeWork (s : State) (i : Instr) (checks : State → SlotNo → List (Bool × Reason))
    (pass : State → SlotNo → State) : State :=
  s.take i (fun s k =>
    let s := s.accept k i
    match firstFailed (checks s k) with
    | some r => s.refuse k i r
    | none => pass s k)

/-- An admin request has passed its checks: its entry slot is reserved, its operation recorded, its entry queued, and
the Journal looks for a program (R119, R142). -/
def State.queueAdmin (s : State) (k : SlotNo) (b : EntryBody) : State :=
  let s := s.claimEntry.modSlot k (fun sl => { sl with admin := some ⟨some b, .queued⟩ })
  (s.enqueue (adminEntry k b)).journalLook

end Sys2Proof.Machine
end

