-- ==== Sys2Proof/Machine/ClockAndSettle.lean ====
section
/-! DEFINITION. CLOCK_SET (R161, R162), SETTLE (R130, R131), and the clock's own events: SECOND_TICK (R156), LEASE_EXPIRY
(R21), FLOAT_EXPIRY (R96). -/

namespace Sys2Proof.Machine

/-- The checks of a CLOCK_SET (R161). -/
def State.clockSetChecks (s : State) (seconds : Nat) : List (Bool × Reason) :=
  s.partChecks ++
    [(seconds != 0, .badField),
     (s.clock.state == .unset || decide (s.clock.seconds ≤ seconds + 600), .clockStep)] ++ s.journalChecks

/-- CLOCK_SET (R161, R162): the entry carries old seconds, new seconds and month index. -/
def execClockSet (h : Header) (seconds month : Nat) (s : State) : Out :=
  .next (s.takeWork (.clockSet h seconds month) (fun s _ => s.clockSetChecks seconds)
    (fun s k => s.queueAdmin k (.clockSet s.clock.entryTime seconds month)))

/-- The checks of a SETTLE (R130). -/
def State.settleChecks (s : State) (number : Nat) : List (Bool × Reason) :=
  s.partChecks ++
    [(decide (s.journal.mark ≤ number ∧ number ≤ s.journal.last), .badField),
     (s.journal.mode == .normal, .storeFault)]

/-- The lowest open vend at or below the number settled, which clips the settle (R131). -/
def State.clippingVend (s : State) (number : Nat) : Option Nat := (s.openVends.filter (fun v => decide (v ≤ number))).min?

/-- A SETTLE has passed its checks: the target is found and the header write begins (R131). -/
def State.passSettle (s : State) (k : SlotNo) (number : Nat) : State :=
  let clip := s.clippingVend number
  let target := clip.elim number (· - 1)
  let s := s.modSlot k (fun sl => { sl with admin := some ⟨none, .header⟩ })
  { s with journal := { s.journal with header := some ⟨number, target, clip⟩ } }

/-- SETTLE (R130, R131). -/
def execSettle (h : Header) (number : Nat) (s : State) : Out :=
  .next (s.takeWork (.settle h number) (fun s _ => s.settleChecks number) (fun s k => s.passSettle k number))

/-- The clock one second later (R156). -/
def Clock.tick (c : Clock) : Clock :=
  match c.state with
  | .unset => c
  | .running => { c with seconds := min max32 (c.seconds + 1) }

/-- SECOND_TICK (R156). -/
def execSecondTick (s : State) : Out := .next { s with clock := s.clock.tick }

/-- The seconds have reached a channel's deadline (R159). -/
def Clock.due (c : Clock) (k : SlotNo) : Bool := (c.channels[k]).any (fun d => decide (d ≤ c.seconds))

/-- LEASE_EXPIRY of slot k (R21, R159). Channel 8 stands at index 0 and is not a lease. -/
def execLeaseExpiry (k : SlotNo) (s : State) : Out :=
  .next (if k ≠ 0 ∧ s.clock.due k then ((s.setChannel k none).overtake k .leaseExpired).journalLook else s)

/-- FLOAT_EXPIRY (R96): the float becomes FROZEN and channel 8 is cleared. -/
def execFloatExpiry (s : State) : Out :=
  .next (if s.clock.due 0 then { s.setChannel 0 none with float := { s.float with state := .frozen } } else s)

end Sys2Proof.Machine
end

