-- ==== Sys2Proof/Machine/FloatRequests.lean ====
section
/-! DEFINITION. The float's requests: GRANT_OPEN (R98), GRANT (R99), RECALL (R102). -/

namespace Sys2Proof.Machine

/-- The grant window opened or shut (R98). -/
def State.setWindow (s : State) (w : Bool) : State := { s with float := { s.float with windowOpen := w } }

/-- The check of a GRANT_OPEN (R98). -/
def State.grantCode (s : State) (code complement : BitVec 32) : Bool :=
  complement == ~~~code && code == s.float.officeCode

/-- GRANT_OPEN (R98): a failed code check shuts the window, a passed one opens it. -/
def execGrantOpen (h : Header) (code complement : BitVec 32) (s : State) : Out :=
  .next (s.take (.grantOpen h code complement) (fun s k =>
    match firstFailed s.partChecks with
    | some r => s.answerRefused k (.grantOpen h code complement) r
    | none =>
      if s.grantCode code complement then
        (s.setWindow true).answer k (.grantOpen h code complement) .done none []
      else (s.setWindow false).answerRefused k (.grantOpen h code complement) .grantCheck))

/-- The largest balance, ceiling and reservation amount of the float (R91). -/
def floatLimit : Nat := 10 ^ 12

/-- The largest amount of a grant or recall, in cents (R99, R102). -/
def amountLimit : Nat := 10 ^ 10

/-- The checks of a GRANT that has passed R141 (R99); `wasOpen` is the window as it was noted. -/
def State.grantChecks (s : State) (wasOpen : Bool) (b : GrantBody) : List (Bool × Reason) :=
  [(wasOpen, .grantShut)] ++ s.partChecks ++
    [(b.complement == ~~~b.amount, .grantCheck),
     (decide (b.amount.toNat ≤ amountLimit) && decide (b.ceiling ≤ floatLimit), .badField),
     (decide (s.float.work.lastGrant < max32) && b.number == s.float.work.lastGrant + 1, .grantOrder),
     (decide (s.float.work.balance + b.amount.toNat * 100 ≤ b.ceiling), .ceiling)] ++ s.journalChecks

/-- GRANT (R99, R100): the window is shut by every GRANT that passes R141. -/
def execGrant (h : Header) (b : GrantBody) (s : State) : Out :=
  .next (s.take (.grant h b) (fun s k =>
    let wasOpen := s.float.windowOpen
    let s := (s.setWindow false).accept k (.grant h b)
    match firstFailed (s.grantChecks wasOpen b) with
    | some r => s.refuse k (.grant h b) r
    | none => s.queueAdmin k (.grant b.number b.amount.toNat b.ceiling b.expiry)))

/-- The checks of a RECALL (R102). -/
def State.recallChecks (s : State) (amount : Nat) : List (Bool × Reason) :=
  s.partChecks ++ [(decide (1 ≤ amount ∧ amount ≤ amountLimit), .badField)] ++ s.journalChecks ++
    [(s.float.covers (amount * 100), .floatShort)]

/-- RECALL (R102): the amount is reserved for slot 0 at once. -/
def execRecall (h : Header) (amount : Nat) (s : State) : Out :=
  .next (s.takeWork (.recall h amount) (fun s _ => s.recallChecks amount)
    (fun s k => (s.reserve k (amount * 100)).queueAdmin k (.recall amount)))

end Sys2Proof.Machine
end

