-- ==== Sys2Proof/Machine/Loads.lean ====
section
/-! DEFINITION. The loads of the settlement slot: TARIFF_LOAD (R37, R38), KEY_LOAD (R82, R83). -/

namespace Sys2Proof.Machine

/-- TARIFF_LOAD (R37, R38): the schedule's LOADING flag is set. -/
def execTariffLoad (h : Header) (b : TariffBody) (s : State) : Out :=
  .next (s.takeWork (.tariffLoad h b)
    (fun s _ => s.partChecks ++ [(b.inRange, .badField)] ++ s.journalChecks)
    (fun s k => (s.modSchedule b.schedule (fun x => { x with loading := true })).queueAdmin k (.tariffLoad b)))

/-- The field check of a KEY_LOAD (R82). -/
def State.keyInRange (s : State) (b : KeyBody) : Bool :=
  decide (b.group ≤ 3) && decide (b.revision ≤ 15) &&
    (s.currentRevision b.group).all (fun c => b.revision == (c + 1) % 16)

/-- A slot holds a meter lock for a vend whose meter is of the group (R82). -/
def State.groupBusy (s : State) (group : Nat) : Bool :=
  s.meters.cells.any (fun c => c.record.group == group && c.lock.any (fun k => (s.slot k).vend.isSome))

/-- The checks of a KEY_LOAD (R82). -/
def State.keyLoadChecks (s : State) (b : KeyBody) : List (Bool × Reason) :=
  s.partChecks ++ [(s.keyInRange b, .badField), (!s.groupBusy b.group, .groupBusy)] ++ s.journalChecks

/-- A KEY_LOAD has passed its checks (R83): the entry slot is reserved, LOADING set, the stage write begun. -/
def State.passKeyLoad (s : State) (k : SlotNo) (b : KeyBody) : State :=
  let s := s.claimEntry.modKey b.group (fun x => { x with loading := true })
  let s := { s with former :=
    { s.former with keyWrite := some (.stage (Fin.ofNat 4 b.group) ⟨b.revision, b.material⟩) } }
  s.modSlot k (fun sl => { sl with admin := some ⟨some (.keyLoad b.group b.revision), .staging false⟩ })

/-- KEY_LOAD (R82, R83). -/
def execKeyLoad (h : Header) (b : KeyBody) (s : State) : Out :=
  .next (s.takeWork (.keyLoad h b) (fun s _ => s.keyLoadChecks b) (fun s k => s.passKeyLoad k b))

end Sys2Proof.Machine
end

