-- ==== Sys2Proof/Machine/MeterRequests.lean ====
section
/-! DEFINITION. The requests that change a meter record: METER_HOLD (R65), ENROL (R66), RETIRE (R69), METER_UPDATE (R70). -/

namespace Sys2Proof.Machine

/-- The meter's lock is free, or no record holds the number. -/
def State.lockFree (s : State) (meter : Nat) : Bool := (s.meters.lookup meter).all (·.lock.isNone)

/-- The meter is in the table. -/
def State.known (s : State) (meter : Nat) : Bool := (s.meters.lookup meter).isSome

/-- The checks of a METER_HOLD (R63, R65). -/
def State.meterHoldChecks (s : State) (meter newState : Nat) : List (Bool × Reason) :=
  s.partChecks ++
    [(meterInRange meter && (MeterState.ofCode newState).isSome, .badField), (s.known meter, .unknownMeter),
     (s.lockFree meter, .meterBusy)] ++ s.journalChecks

/-- METER_HOLD (R65). -/
def execMeterHold (h : Header) (meter newState : Nat) (s : State) : Out :=
  .next (s.takeWork (.meterHold h meter newState) (fun s _ => s.meterHoldChecks meter newState)
    (fun s k => (s.setLock meter (some k)).queueAdmin k
      (.meterHold meter ((MeterState.ofCode newState).getD .active))))

/-- The checks of an ENROL (R63, R66). -/
def State.enrolChecks (s : State) (b : EnrolBody) : List (Bool × Reason) :=
  s.partChecks ++
    [(s.clock.state == .running, .clockUnset), (b.inRange, .badField), (s.lockFree b.meter, .meterBusy),
     (!s.known b.meter, .badField), (decide (s.meters.cells.length < tableSize), .tableFull)] ++ s.journalChecks

/-- The record an ENROL entry carries (R67): its last sequence at least the floor, the month stamp the clock's. -/
def State.enrolRecord (s : State) (b : EnrolBody) : MeterRecord :=
  { number := b.meter, state := (MeterState.ofCode b.state).getD .active, group := b.group, revision := b.revision,
    schedule := b.schedule, lastSeq := max b.lastSeq (s.journal.sequenceFloor b.meter b.revision),
    monthStamp := s.clock.month, monthTenths := b.monthTenths, fixed := b.fixed, freeTaken := b.freeTaken == 1,
    arrears := b.arrears, recovery := b.recovery, applied := 0 }

/-- ENROL (R66, R67). -/
def execEnrol (h : Header) (b : EnrolBody) (s : State) : Out :=
  .next (s.takeWork (.enrol h b) (fun s _ => s.enrolChecks b) (fun s k => s.queueAdmin k (.enrol (s.enrolRecord b))))

/-- The checks of a RETIRE (R63, R69). -/
def State.retireChecks (s : State) (meter : Nat) : List (Bool × Reason) :=
  s.partChecks ++
    [(meterInRange meter, .badField), (s.known meter, .unknownMeter), (s.lockFree meter, .meterBusy)] ++ s.journalChecks

/-- RETIRE (R69). -/
def execRetire (h : Header) (meter : Nat) (s : State) : Out :=
  .next (s.takeWork (.retire h meter) (fun s _ => s.retireChecks meter)
    (fun s k => (s.setLock meter (some k)).queueAdmin k (.retire meter)))

/-- Check 4 of R70: each present change meets its condition against the record. -/
def State.changesMeet (s : State) (b : UpdateBody) : Bool :=
  (s.meters.lookup b.meter).all (fun c =>
    (!b.has 3 || decide (c.record.lastSeq < b.lastSeq)) &&
      (!b.has 4 || (s.currentRevision b.group).any (fun cur => b.group != c.record.group || c.record.revision != cur)))

/-- The checks of a METER_UPDATE (R63, R70). -/
def State.meterUpdateChecks (s : State) (b : UpdateBody) : List (Bool × Reason) :=
  s.partChecks ++
    [(b.inRange, .badField), (s.known b.meter, .unknownMeter), (s.lockFree b.meter, .meterBusy),
     (s.changesMeet b, .badField)] ++ s.journalChecks

/-- The values a METER_UPDATE entry carries (R71). -/
def State.updateValues (s : State) (b : UpdateBody) : UpdateValues :=
  let rev := (s.currentRevision b.group).getD 0
  { schedule := if b.has 0 then some b.schedule else none
    arrears := if b.has 1 then some b.arrears else none
    recovery := if b.has 2 then some b.recovery else none
    lastSeq := if b.has 3 then some b.lastSeq else none
    move := if b.has 4 then some ⟨b.group, rev, s.journal.sequenceFloor b.meter rev⟩ else none }

/-- METER_UPDATE (R70, R71). -/
def execMeterUpdate (h : Header) (b : UpdateBody) (s : State) : Out :=
  .next (s.takeWork (.meterUpdate h b) (fun s _ => s.meterUpdateChecks b)
    (fun s k => (s.setLock b.meter (some k)).queueAdmin k (.meterUpdate b.meter (s.updateValues b))))

end Sys2Proof.Machine
end

