-- ==== Sys2Proof/Machine/Port.lean ====
section
/-! DEFINITION. The events of the wire (R181 to R187): address bytes, data bytes, the ends of writes that carry no request,
the serving of a read. -/

namespace Sys2Proof.Machine

/-- The write address byte of a slot (R181). -/
def writeByte (straps : Fin 4) (k : SlotNo) : Byte := BitVec.ofNat 8 ((0x28 + 16 * straps.val + k.val) * 2)

/-- The read address byte of a slot (R181). -/
def readByte (straps : Fin 4) (k : SlotNo) : Byte := BitVec.ofNat 8 ((0x28 + 16 * straps.val + k.val) * 2 + 1)

/-- The slot whose write address byte this is. -/
def Port.writeSlot (p : Port) (b : Byte) : Option SlotNo := slotList.find? (fun k => writeByte p.straps k == b)

/-- The slot whose read address byte this is. -/
def Port.readSlot (p : Port) (b : Byte) : Option SlotNo := slotList.find? (fun k => readByte p.straps k == b)

/-- The port awaits an address byte (R182). -/
def Port.awaitsAddress (p : Port) : Bool :=
  match p.target with
  | .free => true
  | .passed => true
  | .write _ _ _ => false
  | .read _ _ _ _ => false

/-- An address byte is not acknowledged: PASSED (R182). -/
def State.pass (s : State) : State := { s with port := { s.port with target := .passed, ackOut := some false } }

/-- No acknowledgement is driven (R181, R187). -/
def State.silent (s : State) : State := { s with port := { s.port with ackOut := some false } }

/-- WRITE_ADDRESS_BYTE (R138, R182): acknowledged unless the slot is WORKING. -/
def execWriteAddressByte (b : Byte) (s : State) : Out :=
  .next (
    if !s.answering then s.silent
    else if !s.port.awaitsAddress then s
    else
      match s.port.writeSlot b with
      | none => s
      | some k =>
        match (s.slot k).state with
        | .working => s.pass
        | st =>
          { s with port := { s.port with target := .write k st false, buffers := s.port.buffers.set k []
                                         ackOut := some true } })

/-- ADDRESS_BYTE_FOR_ANOTHER_ADDRESS (R181, R182): PASSED, not acknowledged. -/
def execAddressByteForAnotherAddress (b : Byte) (s : State) : Out :=
  .next (
    if !s.answering then s.silent
    else if !s.port.awaitsAddress then s
    else
      match s.port.writeSlot b, s.port.readSlot b with
      | none, none => s.pass
      | _, _ => s)

/-- DATA_BYTE (R183). -/
def execDataByte (b : Byte) (s : State) : Out :=
  .next (
    if !s.answering then s.silent
    else
      match s.port.target with
      | .write k at0 overrun =>
        let taken := s.port.buffers[k]
        if taken.length < 64 then
          { s with port := { s.port with buffers := s.port.buffers.set k (taken ++ [b]), ackOut := some true } }
        else
          { s with port := { s.port with target := .write k at0 true, ackOut := some false } }
      | .free => s
      | .passed => s
      | .read _ _ _ _ => s)

/-- EMPTY_WRITE (R184): a write with no data byte taken ends; nothing is handed. -/
def execEmptyWrite (s : State) : Out :=
  .next (
    match s.port.target with
    | .write k _ _ => if s.answering ∧ s.port.buffers[k] = [] then s.endWrite k else s
    | .free => s
    | .passed => s
    | .read _ _ _ _ => s)

/-- A frame fails the frame checks (R184). -/
def frameFails (bytes : List Byte) (overrun : Bool) : Bool := overrun || (parseFrame bytes).isNone

/-- A frame that fails the frame checks is handed (R138, R141, R191): bytes 4 and 5 as taken, 0 where not taken. The
refusal has an empty body whatever request byte 4 names: the bodies that R99, R141, R161 and R193 give to refusals of VEND,
KEY_LOAD, GRANT and CLOCK_SET are taken to belong to frames that are those requests (LOG 34, the model's choice). -/
def State.handBadFrame (s : State) (k : SlotNo) (at0 : SlotState) (bytes : List Byte) : State :=
  let code := bytes.getD 4 0
  let seq := bytes.getD 5 0
  if at0 = .unbound ∨ (s.slot k).state = .unbound then s.setNotice k ⟨code, seq, .badFrame⟩
  else (s.clearNotice k).holdFrame k (responseFrame code seq .refused (some .badFrame) [])

/-- BAD_FRAME (R184): a write with data ends and its frame fails the frame checks. -/
def execBadFrame (s : State) : Out :=
  .next (
    match s.port.target with
    | .write k at0 overrun =>
      let bytes := s.port.buffers[k]
      if s.answering ∧ bytes ≠ [] ∧ frameFails bytes overrun then (s.endWrite k).handBadFrame k at0 bytes else s
    | .free => s
    | .passed => s
    | .read _ _ _ _ => s)

/-- READ_TRANSACTION (R185): acknowledged; a copy of the frame of R139 is fixed and its first byte sent. -/
def execReadTransaction (b : Byte) (s : State) : Out :=
  .next (
    if !s.answering then s.silent
    else if !s.port.awaitsAddress then s
    else
      match s.port.readSlot b with
      | none => s
      | some k =>
        let frame := (s.slot k).readFrame
        { s with port := { s.port with target := .read k frame 1 false, ackOut := some true
                                       dataOut := some (frame.getD 0 0xFF) } })

/-- ACKNOWLEDGE_FROM_MASTER (R185): the next byte, 0xFF beyond the frame; a not-acknowledge stops the sending. -/
def execAcknowledgeFromMaster (ack : Bool) (s : State) : Out :=
  .next (
    match s.port.target with
    | .read k frame pos false =>
      if ack then
        { s with port := { s.port with target := .read k frame (pos + 1) false, dataOut := some (frame.getD pos 0xFF) } }
      else
        { s with port := { s.port with target := .read k frame pos true, dataOut := none } }
    | .read _ _ _ true => s
    | .free => s
    | .passed => s
    | .write _ _ _ => s)

/-- READ_END (R182): a STOP or START in READ or PASSED. -/
def execReadEnd (s : State) : Out :=
  .next (
    match s.port.target with
    | .read _ _ _ _ => { s with port := { s.port with target := .free, dataOut := none } }
    | .passed => { s with port := { s.port with target := .free } }
    | .free => s
    | .write _ _ _ => s)

end Sys2Proof.Machine
end

