-- ==== Sys2Proof/Machine/Queries.lean ====
section
/-! DEFINITION. The requests answered at once from the records: STATUS, METER_QUERY, FLOAT_QUERY, JOURNAL_READ, REPRINT. -/

namespace Sys2Proof.Machine

/-- The vend group of STATUS: shown in HELD, empty otherwise (R152). -/
def State.statusVend (s : State) (k : SlotNo) : List Byte :=
  match (s.slot k).state, (s.slot k).vend with
  | .held, some v =>
    vendNoBytes v.number ++ beBytes 1 v.plan.units.length ++ beBytes 1 v.issued ++ beBytes 1 v.batch.length ++
      beBytes 4 ((s.clock.channels[k]).getD 0)
  | _, _ => []

/-- One bit for each slot that has a pending change (R190). -/
def State.pendingBits (s : State) : Nat :=
  (slotList.map (fun k => if (s.slot k).pendingChange.isSome then 2 ^ k.val else 0)).sum

/-- The body of a STATUS response (R152, R193). An empty last ending is left out, 0 bytes (LOG 17, the model's choice). -/
def State.statusBody (s : State) (k : SlotNo) : List Byte :=
  let sl := s.slot k
  beBytes 1 k.val ++ beBytes 1 (sl.cls.elim 0 SlotClass.code) ++ [sl.perms] ++ beBytes 2 sl.lease ++ s.statusVend k ++
    lastEndingBytes sl.lastEnding ++ sl.till.bytes ++
    slotList.flatMap (fun j => beBytes 1 (s.slot j).state.code) ++ beBytes 1 s.pendingBits ++
    beBytes 5 s.float.available ++ beBytes 1 s.float.state.code ++
    beBytes 1 s.journal.mode.code ++ beBytes 2 s.journal.obtainable ++ beBytes 2 s.journal.reserved ++
    beBytes 4 s.journal.last ++ beBytes 4 s.journal.mark ++ s.clock.bytes

/-- STATUS (R152). -/
def execStatus (h : Header) (s : State) : Out :=
  .next (s.takeQuery (.status h) (fun s _ => s.partChecks) (fun s k => s.statusBody k))

/-- A lock owner in its byte; 0xFF for none (R190). -/
def lockByte (owner : Option SlotNo) : List Byte := beBytes 1 (owner.elim 0xFF (·.val))

/-- The body of a METER_QUERY response: every field of R54, then the lock's owner (R64). -/
def MeterCell.bytes (c : MeterCell) : List Byte := c.record.entryBytes ++ beBytes 4 c.record.applied ++ lockByte c.lock

/-- METER_QUERY (R64). -/
def execMeterQuery (h : Header) (meter : Nat) (s : State) : Out :=
  .next (s.takeQuery (.meterQuery h meter)
    (fun s _ => s.partChecks ++
      [(meterInRange meter, .badField), ((s.meters.lookup meter).isSome, .unknownMeter)])
    (fun s _ => (s.meters.lookup meter).elim [] MeterCell.bytes))

/-- The body of a FLOAT_QUERY response (R104): the list's entries, then their number. -/
def FloatAccount.bytes (f : FloatAccount) : List Byte :=
  beBytes 5 f.work.balance ++ beBytes 5 f.work.ceiling ++ beBytes 4 f.work.expiry ++ beBytes 4 f.work.lastGrant ++
    beBytes 4 f.work.applied ++ beBytes 5 f.available ++ beBytes 1 f.state.code ++ beBytes 1 f.windowOpen.toNat ++
    f.reservations.flatMap (fun r => beBytes 1 r.slot.val ++ beBytes 5 r.amount) ++ beBytes 1 f.reservations.length

/-- FLOAT_QUERY (R104). -/
def execFloatQuery (h : Header) (s : State) : Out :=
  .next (s.takeQuery (.floatQuery h) (fun s _ => s.partChecks) (fun s _ => s.float.bytes))

/-- The records of a JOURNAL_READ: entries from `n` on, at most `count`, that fit in `room` bytes (R132). -/
def Journal.records (j : Journal) : Nat → Nat → Nat → List (List Byte)
  | 0, _, _ => []
  | count + 1, n, room =>
    match j.entry? n with
    | none => []
    | some e =>
      if e.recordBytes.length ≤ room then e.recordBytes :: j.records count (n + 1) (room - e.recordBytes.length) else []

/-- The trailer's length: entries given, last committed number, first number in the store, settle mark. -/
def trailerLength : Nat := 13

/-- The body of a JOURNAL_READ response (R132, R193). -/
def Journal.readBody (j : Journal) (n count : Nat) : List Byte :=
  let rs := j.records count n (97 - trailerLength)
  rs.flatten ++ beBytes 1 rs.length ++ beBytes 4 j.last ++ beBytes 4 (j.firstNumber.getD 0) ++ beBytes 4 j.mark

/-- JOURNAL_READ (R132). -/
def execJournalRead (h : Header) (number count : Nat) (s : State) : Out :=
  .next (s.takeQuery (.journalRead h number count)
    (fun s _ => s.partChecks ++
      [(decide (1 ≤ number ∧ number ≤ s.journal.last) && decide (1 ≤ count ∧ count ≤ 3), .badField),
       (s.journal.inStore number, .entryGone)])
    (fun s _ => s.journal.readBody number count))

/-- The TOKEN entry with a journal number, with its slot byte. -/
def Journal.token? (j : Journal) (n : Nat) : Option (SlotNo × TokenEntry) :=
  match j.entry? n with
  | none => none
  | some e => match e.body with
    | .token t => some (e.slot, t)
    | _ => none

/-- The body of a REPRINT response (R133, R193). -/
def TokenEntry.bytes (t : TokenEntry) (n : Nat) : List Byte :=
  (Token.mk t.code t.kind t.seq n).bytes ++ beBytes 5 t.meter ++ beBytes 4 t.vend ++ beBytes 2 t.tenths ++
    beBytes 1 t.revision

/-- REPRINT (R133). -/
def execReprint (h : Header) (number : Nat) (s : State) : Out :=
  .next (s.takeQuery (.reprint h number)
    (fun s k => s.partChecks ++
      [(decide (1 ≤ number ∧ number ≤ s.journal.last), .badField), (s.journal.inStore number, .entryGone),
       ((s.journal.token? number).isSome, .badField),
       ((s.journal.token? number).any (fun t => t.1 == k) || holdsItem (s.slot k).perms .crossRead, .notPermitted)])
    (fun s _ => (s.journal.token? number).elim [] (fun t => t.2.bytes number)))

end Sys2Proof.Machine
end

