-- ==== Sys2Proof/Machine/Commit.lean ====
section
/-! DEFINITION. What a commit hands to the owners of each entry kind (R114, R118): one operation per kind, and the commit. -/

namespace Sys2Proof.Machine

/-- The admin operation of slot k has committed; its record write is owed. -/
def State.adminWriting (s : State) (k : SlotNo) : State :=
  s.modSlot k (fun sl => { sl with admin := sl.admin.map (fun a => { a with phase := .writing }) })

/-- An admin request has its response DONE: the operation is removed and the slot's work has ended (R142). -/
def State.adminDone (s : State) (k : SlotNo) (body : List Byte) : State :=
  ((s.respond k .done none body).modSlot k (fun sl => { sl with admin := none })).endWork k

/-- VEND_OPEN commits (R13): the vend number is assigned, the share falls by one, the record write is owed. -/
def State.commitOpen (s : State) (k : SlotNo) (n : Nat) : State :=
  match (s.slot k).vend with
  | none => s
  | some v =>
    let s := s.modSlot k (fun sl => { sl with vend := some { v with number := some n, share := v.share - 1 } })
    s.oweMeterWrite ⟨.opening k, v.meter, .opening v.plan.rolled v.plan.month v.plan.fixed v.plan.arrears, n⟩

/-- The unit in progress enters APPLYING (R16). -/
def Engine.toApplying (e : Engine) : Engine :=
  match e.unit with
  | none => e
  | some u => { e with unit := some { u with stage := .applying } }

/-- TOKEN commits (R15, R16): the unit enters APPLYING, the share falls by one, the record write is owed. -/
def State.commitToken (s : State) (k : SlotNo) (t : TokenEntry) (n : Nat) : State :=
  match (s.slot k).vend with
  | none => s
  | some v =>
    let s := { s with engine := s.engine.toApplying }
    let s := s.modSlot k (fun sl => { sl with vend := some { v with share := v.share - 1 } })
    s.oweMeterWrite ⟨.unit ⟨t.code, t.kind, t.seq, n⟩, t.meter,
      .token t.kind t.seq t.tenths ((s.currentRevision v.group).getD 0), n⟩

/-- The response of a vend whose VEND_END has committed (R24, R25). -/
def State.respondEnd (s : State) (k : SlotNo) (v : Vend) (d : EndEntry) : State :=
  match d.ending with
  | .complete => s.respond k .done none v.bodyBytes
  | .partly => s.respond k .ended d.reason v.endedBytes
  | .interrupted => s.respond k .ended d.reason v.endedBytes
  | .refused => s.respond k .ended d.reason v.endedBytes

/-- VEND_END of a vend in flight commits (R24). -/
def State.commitEnd (s : State) (k : SlotNo) (d : EndEntry) (n : Nat) : State :=
  match (s.slot k).vend with
  | none => s
  | some v =>
    let s := s.returnShare (v.share - 1)
    let s := (s.releaseReservation k).oweFloatWrite (s.float.work.draw (v.plan.value - d.undelivered) n) .nothing
    let s := s.setLock v.meter none
    let s := s.modSlot k (fun sl => { sl with till := sl.till.add v.plan.tender v.plan.change d.undelivered })
    let s := s.respondEnd k v d
    (s.removeVend k ⟨some d.vend, d.ending, d.reason, d.issued, d.undelivered⟩).endWork k

/-- The scan's VEND_END commits (R106, R177): the vend is drawn and counted. Its float write is under way from the commit
on, also when the commit falls in a pause of the scan (R180), and may complete in the pause (LOG 33, the model's choice). -/
def State.commitScanEnd (s : State) (d : EndEntry) (n : Nat) : State :=
  let s := s.oweFloatWrite (s.float.work.draw (s.journal.openValue d.vend - d.undelivered) n) .nothing
  { s with watch := { s.watch with scan := { s.watch.scan with closed := s.watch.scan.closed + 1 } } }

/-- GRANT commits (R100): working copy, judgement, write. -/
def State.commitGrant (s : State) (number amount ceiling expiry n : Nat) : State :=
  let r := s.float.work.grant number amount ceiling expiry n
  let s := { s with float := { s.float with work := r } }
  let s := s.judge
  (s.oweFloatWrite r (.grant number n s.float.state)).adminWriting 0

/-- RECALL commits (R103). -/
def State.commitRecall (s : State) (amount n : Nat) : State :=
  let r := s.float.work.draw (amount * 100) n
  let s := s.releaseReservation 0
  let available := { s.float with work := r }.available
  (s.oweFloatWrite r (.recall amount n available)).adminWriting 0

/-- An admin request of the Meter Table commits (R61, R63). -/
def State.commitMeter (s : State) (k : SlotNo) (meter : Nat) (c : RecordChange) (n : Nat) : State :=
  (s.oweMeterWrite ⟨.admin k, meter, c, n⟩).adminWriting k

/-- KEY_LOAD commits (R84): the install write begins. -/
def State.commitKeyLoad (s : State) (group n : Nat) : State :=
  { s with former := { s.former with keyWrite := some (.install (Fin.ofNat 4 group) n) } }.adminWriting 0

/-- TARIFF_LOAD commits (R39): the schedule write begins. -/
def State.commitTariff (s : State) (b : TariffBody) (n : Nat) : State :=
  { s with tariff := { s.tariff with write := some (b, n) } }.adminWriting 0

/-- A deadline moved by a clock step (R163), held at the largest second and at 0 (LOG 27). -/
def moveDeadline (d : Nat) (step : Int) : Nat := min max32 (Int.toNat ((d : Int) + step))

/-- The step of a CLOCK_SET measured at its commit (R163). -/
def Clock.step (c : Clock) (new : Nat) : Option Int :=
  match c.state with
  | .unset => none
  | .running => some ((new : Int) - c.seconds)

/-- The channels after a step: 1 to 7 are moved, 8 (index 0) is not (R163). -/
def Clock.moveChannels (c : Clock) (step : Int) : Vector (Option Nat) 8 :=
  Vector.ofFn (fun i : Fin 8 => if i = 0 then c.channels[i] else c.channels[i].map (fun d => moveDeadline d step))

/-- The clock after a CLOCK_SET's commit (R163). -/
def Clock.set (c : Clock) (new month n : Nat) : Clock :=
  { c with state := .running, seconds := new, month := month, taken := n
           channels := c.moveChannels ((c.step new).getD 0) }

/-- CLOCK_SET commits (R163): step, clock, deadlines, judgement, settings write. -/
def State.commitClock (s : State) (new month n : Nat) : State :=
  let step := s.clock.step new
  let s := { s with clock := s.clock.set new month n }
  let s := s.judge
  { s with clock := { s.clock with settingsWrite := some ⟨month, n, step, s.float.state, true⟩ } }.adminWriting 0

/-- BIND commits (R144). -/
def State.commitBind (s : State) (k : SlotNo) (e : BindEntry) (n : Nat) : State :=
  let totals := (s.slot e.target).till
  let s := s.modSlot e.target (fun sl =>
    { sl with tag := e.tag, cls := some e.cls, perms := e.perms, lease := e.lease, till := Till.zero, held := none,
              lastEnding := none, notice := none, pendingChange := none, state := .idle })
  s.adminDone k (beBytes 1 e.target.val ++ beBytes 4 n ++ totals.bytes)

/-- A slot unbound (R148). -/
def Slot.unbind (sl : Slot) : Slot :=
  { sl with tag := 0, cls := none, perms := 0, lease := 120, pendingChange := none, inHand := none, notice := none,
            state := .unbound }

/-- UNBIND commits (R148). A slot that unbinds itself holds the DONE and is UNBOUND. -/
def State.commitUnbind (s : State) (k t : SlotNo) (n : Nat) : State :=
  let body := beBytes 1 t.val ++ beBytes 4 n ++ (s.slot t).till.bytes
  if t = k then
    (s.respond k .done none body).modSlot k (fun sl => { sl.unbind with admin := none })
  else (s.modSlot t Slot.unbind).adminDone k body

/-- SHIFT_CLOSE commits (R151). -/
def State.commitShiftClose (s : State) (k : SlotNo) (t : Till) (n : Nat) : State :=
  (s.modSlot k (fun sl => { sl with till := Till.zero })).adminDone k (t.bytes ++ beBytes 4 n)

/-- A committed entry is handed to its owners (R114, R118). -/
def State.commitBody (s : State) (e : QEntry) (n : Nat) : State :=
  match e.body with
  | .vendOpen _ => s.commitOpen e.slot n
  | .token t => s.commitToken e.slot t n
  | .vendEnd d => if s.watch.part = .starting then s.commitScanEnd d n else s.commitEnd e.slot d n
  | .grant g a c x => s.commitGrant g a c x n
  | .recall a => s.commitRecall a n
  | .enrol r => s.commitMeter e.slot r.number (.create r) n
  | .retire m => s.commitMeter e.slot m .remove n
  | .meterUpdate m v => s.commitMeter e.slot m (.update v) n
  | .meterHold m st => s.commitMeter e.slot m (.state st) n
  | .keyLoad g _ => s.commitKeyLoad g n
  | .tariffLoad b => s.commitTariff b n
  | .clockSet _ new month => s.commitClock new month n
  | .bind b => s.commitBind e.slot b n
  | .unbind t => s.commitUnbind e.slot t n
  | .shiftClose t => s.commitShiftClose e.slot t n
  | .start _ _ _ => s.scanFinish

/-- The Journal's own part of a commit (R118): the entry slot written with its check, the number taken, the entry out
of the queue, its reservation returned. -/
def Journal.commit (j : Journal) (addr n time : Nat) (e : QEntry) : Journal :=
  { j.put addr (.written (Entry.sealed n e.slot time e.body)) with
    last := n, op := .idle, failedOnce := false, queue := j.queue.drop 1
    reserved := if e.reserved then j.reserved - 1 else j.reserved }

/-- A program verifies and its entry commits (R118). -/
def State.commit (s : State) (addr n time : Nat) (e : QEntry) : State :=
  { s with journal := s.journal.commit addr n time e }.commitBody e n

end Sys2Proof.Machine
end

