-- ==== Sys2Proof/Machine/RecordWrites.lean ====
section
/-! DEFINITION. The completions of the transform and of the record writes: TRANSFORM (R15), OPEN_RECORD (R13), UNIT_RECORD
(R17), METER (R63), FLOAT (R92), SCHEDULE (R39), STAGE (R83, R86), INSTALL (R84), SETTINGS (R163). -/

namespace Sys2Proof.Machine

/-- The TOKEN entry of a unit whose transform has completed (R15). -/
def Vend.tokenEntry (v : Vend) (u : UnitInProgress) (p : PlanUnit) (revision : Nat) (code : BitVec 72) : TokenEntry :=
  { vend := v.number.getD 0, meter := v.meter, kind := p.kind, seq := u.seq, tenths := p.tenths, value := p.value,
    revision := revision, code := code }

/-- The path is idle again (R90). -/
def State.endTransform (s : State) : State := { s with former := { s.former with transform := none } }

/-- The unit leaves the engine. -/
def State.dropUnit (s : State) : State := { s with engine := { s.engine with unit := none } }

/-- A transform completes (R14, R15): the code word of a discarded unit is dropped; otherwise the unit enters
COMMITTING and its TOKEN entry joins the queue in the engine's place. -/
def State.finishUnit (s : State) (t : Transform) (u : UnitInProgress) : State :=
  match u.discarded, (s.slot u.slot).vend with
  | false, some v =>
    match v.plan.units[u.index]? with
    | some p =>
      let code := Config.transform t.key t.plain
      let s := { s with engine := { s.engine with unit := some { u with stage := .committing } } }
      s.enqueue { place := .engine, slot := u.slot, reserved := true
                  body := .token (v.tokenEntry u p t.revision code) }
    | none => s.dropUnit
  | _, _ => s.dropUnit

/-- TRANSFORM_COMPLETION (R14, R15). -/
def execTransformCompletion (s : State) : Out :=
  .next (
    match s.former.transform, s.engine.unit with
    | some t, some u => (s.endTransform.finishUnit t u).proceed
    | _, _ => s)

/-- VEND_OPEN's record write is done (R13): the vend is in ISSUING and closes at once, or has work. -/
def State.openApplied (s : State) (k : SlotNo) (v : Vend) : State :=
  match v.pendingEnding with
  | some r => s.closeVend k { v with phase := .issuing } .partly (some r)
  | none =>
    if v.plan.units = [] then s.closeVend k { v with phase := .issuing } .complete none
    else s.modSlot k (fun sl => { sl with vend := some { v with phase := .issuing } })

/-- OPEN_RECORD_WRITE_COMPLETION (R13). A vend that FAILED mode ended meanwhile is not there any more (R31). -/
def execOpenRecordWriteCompletion (s : State) : Out :=
  .next (
    match s.meters.writes with
    | w :: _ =>
      match w.owner with
      | .opening k =>
        let s := s.endMeterWrite w
        match (s.slot k).vend with
        | some v => if v.number = some w.number then (s.openApplied k v).proceed else s.proceed
        | none => s.proceed
      | .unit _ => s
      | .admin _ => s
      | .replay => s
    | [] => s)

/-- The lease deadline of a slot that enters HELD (R18). -/
def State.leaseDeadline (s : State) (k : SlotNo) : Nat := min max32 (s.clock.seconds + (s.slot k).lease)

/-- The slot enters HELD with its PART (R18). -/
def State.enterHeld (s : State) (k : SlotNo) (v : Vend) : State :=
  let s := s.respond k .part none v.bodyBytes
  (s.setChannel k (some (s.leaseDeadline k))).modSlot k (fun sl => { sl with state := .held })

/-- The unit's record write is done (R17): the token joins the batch, and the vend goes on by the first case that
applies; in FAILED mode it ends by R31. -/
def State.unitApplied (s : State) (k : SlotNo) (v : Vend) (tok : Token) : State :=
  let v := { v with batch := v.batch ++ [tok], issued := v.issued + 1 }
  let s := s.modSlot k (fun sl => { sl with vend := some v })
  match s.journal.mode with
  | .failed => s.endStoreFault k v
  | .normal =>
    if v.issued = v.plan.units.length then s.closeVend k v .complete none
    else
      match v.pendingEnding with
      | some r => s.closeVend k v .partly (some r)
      | none => if v.batch.length = 4 then s.enterHeld k v else s

/-- UNIT_RECORD_WRITE_COMPLETION (R17). -/
def execUnitRecordWriteCompletion (s : State) : Out :=
  .next (
    match s.meters.writes, s.engine.unit with
    | w :: _, some u =>
      match w.owner with
      | .unit tok =>
        let s := (s.endMeterWrite w).dropUnit
        match (s.slot u.slot).vend with
        | some v => (s.unitApplied u.slot v tok).proceed
        | none => s.proceed
      | .opening _ => s
      | .admin _ => s
      | .replay => s
    | _, _ => s)

/-- The body of the DONE of a meter request (R63): meter number, journal number, and for ENROL the last sequence (R67). -/
def meterDoneBody (w : MeterWrite) : List Byte :=
  beBytes 5 w.meter ++ beBytes 4 w.number ++
    (match w.change with
      | .create r => beBytes 2 r.lastSeq
      | _ => [])

/-- METER_WRITE_COMPLETION (R63; in the replay R62). -/
def execMeterWriteCompletion (s : State) : Out :=
  .next (
    match s.meters.writes with
    | w :: _ =>
      match w.owner with
      | .admin k => ((s.endMeterWrite w).setLock w.meter none |>.adminDone k (meterDoneBody w)).proceed
      | .replay => (s.endMeterWrite w).proceed
      | .opening _ => s
      | .unit _ => s
    | [] => s)

/-- The response a float write owes (R100, R103, LOG 17). -/
def State.floatResponse (s : State) (w : FloatWrite) : State :=
  match w.done with
  | .nothing => s
  | .grant number journal st =>
    s.adminDone 0 (beBytes 4 number ++ beBytes 4 journal ++ beBytes 5 w.record.balance ++ beBytes 5 w.record.ceiling ++
      beBytes 4 w.record.expiry ++ beBytes 1 st.code)
  | .recall amount journal available =>
    s.adminDone 0 (beBytes 5 amount ++ beBytes 4 journal ++ beBytes 5 w.record.balance ++ beBytes 5 available)

/-- The first float write owed is complete (R92). -/
def State.endFloatWrite (s : State) (w : FloatWrite) : State :=
  { s with float := { s.float with nv := w.record, writes := s.float.writes.drop 1 } }

/-- FLOAT_WRITE_COMPLETION (R92). -/
def execFloatWriteCompletion (s : State) : Out :=
  .next (
    match s.float.writes with
    | w :: _ => ((s.endFloatWrite w).floatResponse w).proceed
    | [] => s)

/-- The slot waits for its record write: its admin entry has committed. -/
def Slot.writing (sl : Slot) : Bool := sl.admin.any (fun a => a.phase == .writing)

/-- SCHEDULE_WRITE_COMPLETION (R39; in the replay R36). -/
def execScheduleWriteCompletion (s : State) : Out :=
  .next (
    match s.tariff.write with
    | some (b, n) =>
      let s := s.modSchedule b.schedule (fun _ => Schedule.ofBody b n false)
      let s := { s with tariff := { s.tariff with write := none } }
      (if (s.slot 0).writing then s.adminDone 0 (beBytes 1 b.schedule ++ beBytes 4 n) else s).proceed
    | none => s)

/-- The key table has no write under way. -/
def State.endKeyWrite (s : State) : State := { s with former := { s.former with keyWrite := none } }

/-- A KEY_LOAD's stage write is done (R83, R85): its entry joins the queue, or it is refused POWER_LOW when a supply
warning was taken during the write; a load that FAILED mode refused meanwhile is not there any more. -/
def State.stageWritten (s : State) : State :=
  match (s.slot 0).admin with
  | some ⟨some b, .staging false⟩ =>
    (s.modSlot 0 (fun sl => { sl with admin := some ⟨some b, .queued⟩ })).enqueue (adminEntry 0 b)
  | some ⟨some b, .staging true⟩ => s.refuseAdmin 0 ⟨some b, .staging true⟩ .powerLow
  | _ => s

/-- STAGE_WRITE_COMPLETION (R83; a stage clearing of the scan R86). -/
def execStageWriteCompletion (s : State) : Out :=
  .next (
    match s.former.keyWrite with
    | some (.stage g gen) =>
      ((s.modKey g.val (fun e => { e with stage := some gen })).endKeyWrite.stageWritten).journalLook
    | some (.clear g) => (s.modKey g.val (fun e => { e with stage := none })).endKeyWrite.proceed
    | some (.install _ _) => s
    | none => s)

/-- The body of a KEY_LOAD's DONE (R84): group, new revision, journal number, current revision. -/
def State.keyDoneBody (s : State) (g n : Nat) : List Byte :=
  beBytes 1 g ++ s.revisionByteOf g ++ beBytes 4 n ++ s.revisionByteOf g

/-- INSTALL_WRITE_COMPLETION (R84; in the replay R86). -/
def execInstallWriteCompletion (s : State) : Out :=
  .next (
    match s.former.keyWrite with
    | some (.install g n) =>
      let s := (s.modKey g.val (fun e => { e.install n with loading := false })).endKeyWrite
      (if (s.slot 0).writing then s.adminDone 0 (s.keyDoneBody g.val n) else s).proceed
    | some (.stage _ _) => s
    | some (.clear _) => s
    | none => s)

/-- The body of a CLOCK_SET's DONE (R163): step, journal number, the clock as it stands, the judged float state. -/
def State.clockDoneBody (s : State) (w : SettingsWrite) : List Byte :=
  stepBytes w.step ++ beBytes 4 w.number ++ s.clock.bytes ++ beBytes 1 w.judged.code

/-- SETTINGS_WRITE_COMPLETION (R163; in the replay R165). -/
def execSettingsWriteCompletion (s : State) : Out :=
  .next (
    match s.clock.settingsWrite with
    | some w =>
      let s := { s with clock :=
        { s.clock with settingsMonth := w.month, settingsApplied := w.number, settingsWrite := none } }
      (if w.live then s.adminDone 0 (s.clockDoneBody w) else s).proceed
    | none => s)

end Sys2Proof.Machine
end

