-- ==== Sys2Proof/Machine/SlotRequests.lean ====
section
/-! DEFINITION. The requests about desk slots: SHIFT_CLOSE (R151), BIND (R143), UNBIND (R146, R147). -/

namespace Sys2Proof.Machine

/-- SHIFT_CLOSE (R151): the entry carries the slot's till totals. -/
def execShiftClose (h : Header) (s : State) : Out :=
  .next (s.takeWork (.shiftClose h) (fun s _ => s.partChecks ++ s.journalChecks)
    (fun s k => s.queueAdmin k (.shiftClose (s.slot k).till)))

/-- A desk slot's number in range (R143, R146). -/
def deskInRange (t : Nat) : Bool := decide (1 ≤ t ∧ t ≤ 7)

/-- The slot a target field names. -/
def targetSlot (t : Nat) : SlotNo := Fin.ofNat 8 t

/-- The field check of a BIND (R143, R190). -/
def BindBody.inRange (b : BindBody) : Bool :=
  deskInRange b.target && (b.tag != 0) &&
    (SlotClass.ofBindCode b.cls).any (fun c => b.perms &&& ~~~c.mayHold == 0) &&
    (b.lease == 0 || decide (30 ≤ b.lease ∧ b.lease ≤ 900))

/-- A SUPERVISOR binds cashiers alone, with items it holds itself (R143). -/
def Slot.mayBind (sl : Slot) (b : BindBody) : Bool :=
  sl.cls != some .supervisor || (b.cls == 2 && b.perms &&& ~~~sl.perms == 0)

/-- The tag of a bind pending by this slot. -/
def Slot.pendingTag (sl : Slot) : Option (BitVec 32) :=
  match sl.admin with
  | some ⟨some (.bind e), _⟩ => some e.tag
  | _ => none

/-- The tag is a bound slot's, or a pending bind's (R143). -/
def State.tagTaken (s : State) (tag : BitVec 32) : Bool :=
  s.slots.toList.any (fun sl => (sl.state != .unbound && sl.tag == tag) || sl.pendingTag == some tag)

/-- The checks of a BIND (R143). -/
def State.bindChecks (s : State) (k : SlotNo) (b : BindBody) : List (Bool × Reason) :=
  let t := s.slot (targetSlot b.target)
  s.partChecks ++
    [(BindBody.inRange b, .badField), ((s.slot k).mayBind b, .notPermitted),
     (t.state == .unbound && t.pendingChange.isNone, .wrongState), (!s.tagTaken b.tag, .badField)] ++ s.journalChecks

/-- The values a BIND entry carries (R144): 120 in place of a lease length of 0. -/
def BindBody.entry (b : BindBody) : BindEntry :=
  { target := targetSlot b.target, tag := b.tag, cls := (SlotClass.ofBindCode b.cls).getD .cashier, perms := b.perms,
    lease := if b.lease = 0 then 120 else b.lease }

/-- BIND (R143, R144): the target is marked bind pending. -/
def execBind (h : Header) (b : BindBody) (s : State) : Out :=
  .next (s.takeWork (.bind h b) (fun s k => s.bindChecks k b)
    (fun s k =>
      (s.modSlot (targetSlot b.target) (fun sl => { sl with pendingChange := some (.bindBy k) })).queueAdmin k
        (.bind (BindBody.entry b))))

/-- A SUPERVISOR unbinds cashiers and itself (R146). -/
def State.mayUnbind (s : State) (k t : SlotNo) : Bool :=
  (s.slot k).cls != some .supervisor || t == k || (s.slot t).cls == some .cashier

/-- The checks of an UNBIND (R146). -/
def State.unbindChecks (s : State) (k : SlotNo) (target : Nat) : List (Bool × Reason) :=
  let t := targetSlot target
  s.partChecks ++
    [(deskInRange target, .badField), (s.mayUnbind k t, .notPermitted),
     ((s.slot t).state != .unbound && (s.slot t).pendingChange.isNone, .wrongState)] ++ s.journalChecks

/-- An UNBIND has passed its checks (R147): by the target's state its entry joins the queue at once, or waits until
the target's vend, which it overtakes, or its admin request has ended. -/
def State.passUnbind (s : State) (k t : SlotNo) : State :=
  let s := s.modSlot t (fun sl => { sl with pendingChange := some (.unbindBy k) })
  if t = k then s.queueAdmin k (.unbind t)
  else
    let waiting : State → State := fun s =>
      s.claimEntry.modSlot k (fun sl => { sl with admin := some ⟨some (.unbind t), .waiting⟩ })
    if (s.slot t).vend.isSome then ((waiting s).overtake t .unbound).journalLook
    else if (s.slot t).admin.isSome then (waiting s).journalLook
    else
      (s.modSlot t (fun sl => { sl with state := .working, inHand := some unbindInHand })).queueAdmin k (.unbind t)

/-- UNBIND (R146, R147). -/
def execUnbind (h : Header) (target : Nat) (s : State) : Out :=
  .next (s.takeWork (.unbind h target) (fun s k => s.unbindChecks k target)
    (fun s k => s.passUnbind k (targetSlot target)))

end Sys2Proof.Machine
end

