-- ==== Sys2Proof/Machine/StoreEvents.lean ====
section
/-! DEFINITION. The completions of the store and the header: PROGRAM (R118, R125), VOID_MARK (R125), ERASE and
WORN_MARK_WRITE (R124), SETTLE_HEADER_WRITE (R131). -/

namespace Sys2Proof.Machine

/-- The reserved count stands above the obtainable entry slots (R121). -/
def Journal.promisesTooMuch (j : Journal) : Bool := decide (j.obtainable < j.reserved)

/-- The program of a void mark begins (R125). -/
def State.beginVoidMark (s : State) (addr : Nat) : State :=
  { s with journal := { s.journal with op := .voidMark addr } }

/-- A program does not verify: R121 is applied at that moment, and the program of its void mark begins whatever the mode
is then (R121, R125; LOG 11). Until the void mark completes the entry slot holds what the failed program left (LOG 12). -/
def State.programFails (s : State) (addr : Nat) : State :=
  let s := { s with journal := { s.journal.put addr .halfWritten with op := .idle } }
  (if s.journal.promisesTooMuch then s.enterFailed else s).beginVoidMark addr

/-- PROGRAM_COMPLETION (R118, R125); `verified` is what the verify finds. -/
def execProgramCompletion (verified : Bool) (s : State) : Out :=
  .next (
    match s.journal.op with
    | .program addr n time =>
      if verified then
        match s.journal.queue with
        | e :: _ => (s.commit addr n time e).returnToRun.proceed
        | [] => s
      else s.programFails addr
    | .idle => s
    | .voidMark _ => s
    | .erase _ => s
    | .wornMark _ => s)

/-- The void mark of a failed program is in place. A Journal still in NORMAL mode retries after a first failure and enters
FAILED mode after a second one (R125, R126); one that R121 has put in FAILED mode begins nothing (R127). -/
def State.afterVoidMark (s : State) : State :=
  match s.journal.mode with
  | .failed => s
  | .normal =>
    if s.journal.failedOnce then s.enterFailed
    else { s with journal := { s.journal with failedOnce := true } }.journalLook

/-- VOID_MARK_COMPLETION (R125; in the scan's first step R173). -/
def execVoidMarkCompletion (s : State) : Out :=
  .next (
    match s.journal.op with
    | .voidMark addr =>
      let s := { s with journal := { s.journal.put addr .void with op := .idle } }
      match s.watch.scan.stage with
      | .voiding rest => (s.setStage (.voiding (rest.drop 1))).proceed
      | _ => s.afterVoidMark
    | .idle => s
    | .program _ _ _ => s
    | .erase _ => s
    | .wornMark _ => s)

/-- An erase of the scan's second step is done: the next page's turn (R174). -/
def State.nextErase (s : State) : State :=
  match s.watch.scan.stage with
  | .erasing rest => s.setStage (.erasing (rest.drop 1))
  | _ => s

/-- ERASE_COMPLETION (R124): the page is blank, or its worn mark is to be written. -/
def execEraseCompletion (verified : Bool) (s : State) : Out :=
  .next (
    match s.journal.op with
    | .erase p =>
      if verified then { s with journal := { s.journal.blankPage p with op := .idle } }.nextErase.proceed
      else
        let left := s.journal.partErase p (Config.failedErase s.free)
        { s with journal := { s.journal.setPage p left with op := .wornMark p }, free := s.free + 1 }
    | .idle => s
    | .program _ _ _ => s
    | .voidMark _ => s
    | .wornMark _ => s)

/-- WORN_MARK_WRITE_COMPLETION (R124): the page is WORN, and R121 is applied. -/
def execWornMarkWriteCompletion (s : State) : Out :=
  .next (
    match s.journal.op with
    | .wornMark p =>
      let j := { s.journal.wearPage p with op := .idle }
      let s := { s with journal := j }
      if j.promisesTooMuch then s.enterFailed else s.nextErase.proceed
    | .idle => s
    | .program _ _ _ => s
    | .voidMark _ => s
    | .erase _ => s)

/-- The body of a SETTLE's DONE (R131, LOG 17). -/
def Journal.settleBody (j : Journal) (w : HeaderWrite) : List Byte :=
  beBytes 4 w.requested ++ beBytes 4 j.mark ++ beBytes 1 w.clippedBy.isSome.toNat ++ vendNoBytes w.clippedBy ++
    beBytes 4 j.last ++ beBytes 2 j.obtainable ++ beBytes 2 j.reserved

/-- SETTLE_HEADER_WRITE_COMPLETION (R131). -/
def execSettleHeaderWriteCompletion (s : State) : Out :=
  .next (
    match s.journal.header with
    | none => s
    | some w =>
      let s := { s with journal := { s.journal with mark := w.target, header := none } }
      (s.adminDone 0 (s.journal.settleBody w)).journalLook)

end Sys2Proof.Machine
end

