-- ==== Sys2Proof/Machine/Supply.lean ====
section
/-! DEFINITION. Supply and resets: SUPPLY_WARNING (R168), WARNING_CLEAR (R170), WARM_RESET and COLD_START (R167), SUPPLY_LOSS
(R171), RECOVERY_SCAN_BEGIN (R172); what a reset leaves of the work under way and of the volatile state. -/

namespace Sys2Proof.Machine

/-! ### The supply warning -/

/-- The level of the supply-warning input. -/
def State.setWarning (s : State) (w : Bool) : State := { s with watch := { s.watch with warning := w } }

/-- Slot k has an UNBIND that waits for its target; the target. -/
def Slot.waitsFor (sl : Slot) : Option SlotNo :=
  match sl.admin with
  | some ⟨some (.unbind t), .waiting⟩ => some t
  | _ => none

/-- The targets of the UNBINDs that wait lose their mark (R149). -/
def State.releaseWaitedFor (s : State) : State :=
  (slotList.filterMap (fun k => (s.slot k).waitsFor)).foldl State.releaseTarget s

/-- An UNBIND that waits is refused POWER_LOW (R149). -/
def State.refuseWaiting (s : State) (k : SlotNo) : State :=
  match (s.slot k).admin with
  | some ⟨some (.unbind t), .waiting⟩ => s.refuseAdmin k ⟨some (.unbind t), .waiting⟩ .powerLow
  | _ => s

/-- A KEY_LOAD in its stage write keeps the warning in mind until the write completes (R85). -/
def State.warnStaging (s : State) : State :=
  match (s.slot 0).admin with
  | some ⟨e, .staging _⟩ => s.modSlot 0 (fun sl => { sl with admin := some ⟨e, .staging true⟩ })
  | _ => s

/-- Every vend in flight is overtaken, in the order of the engine's search (R30). -/
def State.overtakeAll (s : State) (r : Reason) : State :=
  (searchOrder s.engine.position).foldl (fun s k => s.overtake k r) s

/-- The part enters HOLDUP (R168): vends are overtaken, UNBINDs that wait are refused. -/
def State.enterHoldup (s : State) : State :=
  let s := { s with watch := { s.watch with part := .holdup } }
  let s := s.overtakeAll .powerLow
  let s := slotList.foldl State.refuseWaiting s.releaseWaitedFor
  s.warnStaging

/-- SUPPLY_WARNING (R166, R168, R180). -/
def execSupplyWarning (s : State) : Out :=
  .next (
    let s := s.setWarning true
    match s.watch.part with
    | .run => s.enterHoldup.journalLook
    | .holdup => s
    | .starting => s)

/-- The scan has taken its last step and waited for the warning to clear (R178). -/
def State.leaveStarting (s : State) : State :=
  if s.watch.part = .starting ∧ s.watch.scan.stage = .ended then s.enterRun else s

/-- WARNING_CLEAR (R166, R170, R180). -/
def execWarningClear (s : State) : Out :=
  .next (
    let s := s.setWarning false
    match s.watch.part with
    | .run => s
    | .holdup => s.returnToRun.proceed
    | .starting => s.leaveStarting.proceed)

/-! ### What a reset leaves of the work under way (R117, R135, R167, R171, R173) -/

/-- The operation of the store cut short: free values say what it left. -/
def Journal.tearOp (j : Journal) (n : Nat) : Journal :=
  match j.op with
  | .idle => j
  | .program addr number time =>
    match Config.tornProgram n, j.queue with
    | .blank, _ => j
    | .halfWritten, _ => j.put addr .halfWritten
    | .written, e :: _ => j.put addr (.written (Entry.sealed number e.slot time e.body))
    | .written, [] => j
  | .voidMark addr => if Config.tornVoidMark n then j.put addr .void else j.put addr .halfWritten
  | .erase p => j.setPage p (j.tearPage p (Config.tornErase n))
  | .wornMark p => if Config.tornWornMark n then j.wearPage p else j

/-- The header write cut short (R131). -/
def Journal.tearHeader (j : Journal) (n : Nat) : Journal :=
  match j.header with
  | none => j
  | some w => if Config.tornWrite n then { j with mark := w.target } else j

/-- The meter record write under way cut short: made whole or not made (R55). -/
def Meters.tear (m : Meters) (n : Nat) : Meters :=
  match m.writes with
  | [] => m
  | w :: _ => if Config.tornWrite n then { m with cells := writeCells m.cells w } else m

/-- The float record write under way cut short (R92). -/
def FloatAccount.tear (f : FloatAccount) (n : Nat) : FloatAccount :=
  match f.writes with
  | [] => f
  | w :: _ => if Config.tornWrite n then { f with nv := w.record } else f

/-- The schedule write cut short (R39). -/
def Tariff.tear (t : Tariff) (n : Nat) : Tariff :=
  match t.write with
  | none => t
  | some (b, number) =>
    if Config.tornWrite n then
      { t with schedules := t.schedules.set (Fin.ofNat 8 b.schedule) (Schedule.ofBody b number false) }
    else t

/-- The key table write cut short (R83, R84, R86). -/
def Former.tear (f : Former) (n : Nat) : Former :=
  match f.keyWrite with
  | none => f
  | some w =>
    if Config.tornWrite n then
      match w with
      | .stage g gen => { f with keys := f.keys.set g { f.keys[g] with stage := some gen } }
      | .install g number => { f with keys := f.keys.set g (f.keys[g].install number) }
      | .clear g => { f with keys := f.keys.set g { f.keys[g] with stage := none } }
    else f

/-- The settings write cut short (R163). -/
def Clock.tear (c : Clock) (n : Nat) : Clock :=
  match c.settingsWrite with
  | none => c
  | some w => if Config.tornWrite n then { c with settingsMonth := w.month, settingsApplied := w.number } else c

/-- Every operation under way stops where it stands (R167). Each kind of work takes a free value of its own. -/
def State.tearDown (s : State) : State :=
  { s with
    journal := (s.journal.tearOp s.free).tearHeader (s.free + 1)
    meters := s.meters.tear (s.free + 2)
    float := s.float.tear (s.free + 3)
    tariff := s.tariff.tear (s.free + 4)
    former := s.former.tear (s.free + 5)
    clock := s.clock.tear (s.free + 6)
    free := s.free + 7 }

/-! ### What a reset sets -/

/-- The journal's volatile state after a reset (R135); last number and tail are set by the scan (LOG 15). -/
def Journal.volatileReset (j : Journal) : Journal :=
  { Journal.delivered with store := j.store, worn := j.worn, mark := j.mark }

/-- The float's volatile state after a reset (R105). -/
def FloatAccount.volatileReset (f : FloatAccount) : FloatAccount :=
  { nv := f.nv, work := f.nv, reservations := [], windowOpen := false, state := .frozen, writes := [],
    officeCode := f.officeCode }

/-- The clock at a warm reset (R156, R159): kept, with no deadline. -/
def Clock.warmReset (c : Clock) : Clock := { c with channels := Vector.replicate 8 none, settingsWrite := none }

/-- The clock at a loss of supply and at a cold start (R156). The month index is 0 until the cold start's replay ends
(LOG 15, the model's choice); a warm reset before that end keeps the 0, and RUN shows it until a CLOCK_SET. -/
def Clock.coldReset (c : Clock) : Clock :=
  { c.warmReset with state := .unset, seconds := 0, month := 0, taken := max32 }

/-- Every volatile state takes the value of a reset (R167); pins, level of the lines, store and records are kept. -/
def State.volatileReset (s : State) (straps : Fin 4) (clock : Clock) : State :=
  { s with
    watch := { s.watch with part := .starting, scan := Scan.fresh }
    port := Port.reset straps
    slots := Slot.table
    engine := ⟨7, none⟩
    former := ⟨none, s.former.keys.map (fun e => { e with loading := false }), none⟩
    tariff := ⟨s.tariff.schedules.map (fun x => { x with loading := false }), none⟩
    meters := ⟨s.meters.cells.map (fun c => { c with lock := none }), []⟩
    float := s.float.volatileReset
    journal := s.journal.volatileReset
    clock := clock }

/-- WARM_RESET (R167): the reset line is asserted while supply holds. -/
def execWarmReset (straps : Fin 4) (s : State) : Out :=
  .next (
    if s.watch.supply then
      let s := s.tearDown
      let s := s.volatileReset straps s.clock.warmReset
      { s with watch := { s.watch with resetLine := true, startKind := .warm } }
    else s)

/-- SUPPLY_LOSS (R171): the volatile state is lost with the supply (LOG 14). -/
def execSupplyLoss (s : State) : Out :=
  .next (
    if s.watch.supply then
      let s := s.tearDown
      let s := s.volatileReset s.port.straps s.clock.coldReset
      { s with watch := { s.watch with supply := false } }
    else s)

/-- COLD_START (R167): supply returns after it has been lost. -/
def execColdStart (straps : Fin 4) (s : State) : Out :=
  .next (
    if s.watch.supply then s
    else
      let s := s.volatileReset straps s.clock.coldReset
      { s with watch := { s.watch with supply := true, startKind := .cold } })

/-- RECOVERY_SCAN_BEGIN (R172): the reset line is clear and supply holds. -/
def execRecoveryScanBegin (s : State) : Out :=
  .next (
    if s.watch.supply ∧ s.watch.part = .starting ∧ s.watch.scan.stage = .notBegun then
      let s := { s with watch := { s.watch with resetLine := false } }
      (s.setStage .readStore).proceed
    else s)

end Sys2Proof.Machine
end

