-- ==== Sys2Proof/Machine/Pricing.lean ====
section
/-! DEFINITION. Pricing and the vend plan (R35, R41 to R51), the sequence room (R3) and the rekey need (R81). -/

namespace Sys2Proof.Machine

/-- The block walk of R45 from a position with a budget: tenths bought and budget left. Blocks that end at or below
the position are passed over (R35). -/
def walk : List BlockStep → Nat → Nat → Nat → Nat × Nat
  | [], last, _, budget => (budget / last, budget - budget / last * last)
  | b :: rest, last, pos, budget =>
    if b.threshold ≤ pos then walk rest last pos budget
    else
      let room := b.threshold - pos
      let n := min room (budget / b.price)
      let left := budget - n * b.price
      if n = room then
        let more := walk rest last (pos + n) left
        (n + more.1, more.2)
      else (n, left)

/-- The cost of a run of tenths from a position (R35). -/
def runCost : List BlockStep → Nat → Nat → Nat → Nat
  | [], last, _, n => n * last
  | b :: rest, last, pos, n =>
    let m := min n (b.threshold - pos)
    m * b.price + runCost rest last (pos + m) (n - m)

/-- A quotient rounded up. -/
def ceilDiv (a b : Nat) : Nat := (a + b - 1) / b

/-- The tenths of each slice: the cap, and in the last the rest (R49). -/
def sliceSizes (tenths cap : Nat) : List Nat :=
  (List.range (ceilDiv tenths cap)).map (fun i => min cap (tenths - i * cap))

/-- Credit slices in order from a position, each with its cost (R49). -/
def creditUnits (sch : Schedule) : Nat → List Nat → List PlanUnit
  | _, [] => []
  | pos, n :: rest => ⟨.credit, n, runCost sch.steps sch.lastPrice pos n⟩ :: creditUnits sch (pos + n) rest

/-- The retained remainder joins the last slice's value (R49). -/
def addRetained : List PlanUnit → Nat → List PlanUnit
  | [], _ => []
  | [u], r => [{ u with value := u.value + r }]
  | u :: rest, r => u :: addRetained rest r

/-- The rekey units that stand first in a unit list (R51). -/
def rekeyUnits (rekey : Bool) : List PlanUnit := if rekey then [⟨.rekeyA, 0, 0⟩, ⟨.rekeyB, 0, 0⟩] else []

/-- The number of rekey units. -/
def rekeyCount (rekey : Bool) : Nat := if rekey then 2 else 0

/-- The record's monthly fields as rollover leaves them for pricing (R42). -/
def MeterRecord.rolledOver (r : MeterRecord) (month : Nat) : MeterRecord :=
  if r.monthStamp = month then r else { r with monthTenths := 0, fixed := 0, freeTaken := false }

/-- The plan figures of a CREDIT vend before its units: fixed, arrears, tenths, left budget (R43 to R46). -/
structure CreditFigures where
  fixed   : Nat
  arrears : Nat
  budget  : Nat
  tenths  : Nat
  left    : Nat
  deriving DecidableEq, Repr

/-- Steps c to e of R41. -/
def creditFigures (sch : Schedule) (r : MeterRecord) (tender : Nat) : CreditFigures :=
  let fixed := min tender (sch.fixed - r.fixed)
  let arrears := min r.arrears ((tender - fixed) * r.recovery / 100)
  let budget := (tender - fixed - arrears) * 100
  let bought := walk sch.steps sch.lastPrice r.monthTenths budget
  ⟨fixed, arrears, budget, bought.1, bought.2⟩

/-- The plan of a CREDIT vend (R41 to R49, R51). When no tenth is bought and arrears are collected it is charges-only by R44
and R47, on a delivered schedule too, where R36 says TENDER_LOW (LOG 35, the model's choice). -/
def creditPlan (sch : Schedule) (r : MeterRecord) (tender month : Nat) (rekey : Bool) : Except Reason Plan :=
  let rolled := r.monthStamp != month
  let r := r.rolledOver month
  let f := creditFigures sch r tender
  let change := f.left / 100
  let retained := f.left - 100 * change
  if sch.maxTender < tender then .error .amountLimit
  else if f.tenths = 0 then
    if f.fixed = 0 ∧ f.arrears = 0 then .error .tenderLow
    else
      .ok { tender := tender, fixed := f.fixed, arrears := f.arrears, change := tender - f.fixed - f.arrears,
            retained := 0, tenths := 0, value := 0, month := month, rolled := rolled, units := rekeyUnits rekey }
  else if ceilDiv f.tenths sch.cap + rekeyCount rekey > 16 then .error .amountLimit
  else
    .ok { tender := tender, fixed := f.fixed, arrears := f.arrears, change := change, retained := retained,
          tenths := f.tenths, value := f.budget - 100 * change, month := month, rolled := rolled
          units := rekeyUnits rekey ++
            addRetained (creditUnits sch r.monthTenths (sliceSizes f.tenths sch.cap)) retained }

/-- The plan of a FREE vend (R50, R51). FREE_TAKEN is judged before the allowance, in R50's order, on a delivered schedule
too, where R36 says TENDER_LOW (LOG 38, the model's choice). -/
def freePlan (sch : Schedule) (r : MeterRecord) (month : Nat) (rekey : Bool) : Except Reason Plan :=
  if (r.rolledOver month).freeTaken then .error .freeTaken
  else if sch.allowance = 0 then .error .tenderLow
  else
    .ok { tender := 0, fixed := 0, arrears := 0, change := 0, retained := 0, tenths := sch.allowance, value := 0,
          month := month, rolled := r.monthStamp != month
          units := rekeyUnits rekey ++ (sliceSizes sch.allowance sch.cap).map (fun n => ⟨.free, n, 0⟩) }

/-- Pricing at admission step 10 (R41); kind 0 is CREDIT, 1 is FREE (R190). -/
def makePlan (sch : Schedule) (r : MeterRecord) (kind tender month : Nat) (rekey : Bool) : Except Reason Plan :=
  if kind = 1 then freePlan sch r month rekey else creditPlan sch r tender month rekey

/-- The lowest price among a schedule's blocks. -/
def Schedule.lowestPrice (sch : Schedule) : Nat := sch.steps.foldl (fun m b => min m b.price) sch.lastPrice

/-- The largest number of credit or free units a request could need (R3). -/
def unitsBound (sch : Schedule) (kind tender : Nat) (rekey : Bool) : Nat :=
  if kind = 1 then ceilDiv sch.allowance sch.cap
  else min (16 - rekeyCount rekey) (ceilDiv (tender * 100 / sch.lowestPrice) sch.cap)

/-- Admission step 9 (R3). -/
def sequenceFits (sch : Schedule) (lastSeq kind tender : Nat) (rekey : Bool) : Bool :=
  if rekey then decide (lastSeq ≤ 65533) else decide (lastSeq + unitsBound sch kind tender rekey ≤ 65533)

/-- Admission step 8 (R3, R81): whether two rekey units are needed; none when the key is lost. A meter that held its
group's current revision before the KEY_LOAD that brought it is current by R81, where R87's last row has it lost (LOG 39,
the model's reading). -/
def rekeyNeed (e : KeyEntry) (revision : Nat) : Option Bool :=
  match e.current with
  | none => none
  | some c =>
    if c.revision = revision then some false
    else if e.previous.map (·.revision) = some revision then some true
    else none

end Sys2Proof.Machine
end

