-- ==== Sys2Proof/Machine/VendRequests.lean ====
section
/-! DEFINITION. The vend's requests: VEND with its admission (R2), CONTINUE (R19), ABANDON (R20). -/

namespace Sys2Proof.Machine

/-- The field ranges of a VEND (R1). -/
def VendBody.inRange (b : VendBody) : Bool :=
  meterInRange b.meter &&
    (if b.kind = 0 then decide (100 ≤ b.tender ∧ b.tender ≤ 500000) else decide (b.kind = 1 ∧ b.tender = 0))

/-- A check of admission. -/
def require (c : Bool) (r : Reason) : Except Reason Unit := if c then .ok () else .error r

/-- A value that admission needs. -/
def needSome {α : Type} (o : Option α) (r : Reason) : Except Reason α :=
  match o with
  | none => .error r
  | some a => .ok a

/-- The journal share of a plan: its units and two entries (R2). -/
def Plan.share (p : Plan) : Nat := p.units.length + 2

/-- The share fits above the admission floor (R2, R120). -/
def Journal.shareFits (j : Journal) (share : Nat) : Bool := decide (share + j.reserved + admissionFloor ≤ j.obtainable)

/-- Admission steps 1 to 12 (R2): the meter's record and the plan, or the reason of the first check that fails. The
claims are made together when every step has passed (LOG 22). -/
def State.admission (s : State) (b : VendBody) : Except Reason (MeterRecord × Plan) := do
  require (VendBody.inRange b) .badField
  require (s.watch.part != .starting) .starting
  require (s.watch.part != .holdup) .powerLow
  require (s.clock.state == .running) .clockUnset
  let cell ← needSome (s.meters.lookup b.meter) .unknownMeter
  let r := cell.record
  require (r.state == .active) .meterBlocked
  require cell.lock.isNone .meterBusy
  require (!(s.former.entry r.group).loading && !(s.tariff.schedule r.schedule).loading) .busyLoading
  let rekey ← needSome (rekeyNeed (s.former.entry r.group) r.revision) .rekeyLost
  let sch := s.tariff.schedule r.schedule
  require (sequenceFits sch r.lastSeq b.kind b.tender rekey) .seqExhausted
  let plan ← makePlan sch r b.kind b.tender s.clock.month rekey
  require (s.float.state == .live) .floatFrozen
  require (s.float.covers plan.value) .floatShort
  require (s.journal.mode == .normal) .storeFault
  require (s.journal.shareFits plan.share) .journalFull
  return (r, plan)

/-- The vend record of an admitted vend (R6, R7). -/
def newVend (b : VendBody) (r : MeterRecord) (p : Plan) : Vend :=
  { receipt := b.receipt, number := none, meter := r.number, group := r.group, schedule := r.schedule, plan := p,
    phase := .opening, openQueued := false, issued := 0, batch := [], share := p.share, pendingEnding := none,
    ending := none }

/-- The claims of an admitted vend and its vend record (R2, R6, R32). -/
def State.admitVend (s : State) (k : SlotNo) (b : VendBody) (r : MeterRecord) (p : Plan) : State :=
  let s := (s.setLock r.number (some k)).reserve k p.value
  let s := s.setReserved (s.journal.reserved + p.share)
  s.modSlot k (fun sl => { sl with vend := some (newVend b r p), lastEnding := none })

/-- VEND (R1, R2): admission; an admitted vend asks for the engine at once (R11). -/
def execVend (h : Header) (b : VendBody) (s : State) : Out :=
  .next (s.take (.vend h b) (fun s k =>
    let s := s.accept k (.vend h b)
    match s.admission b with
    | .error r => s.refuse k (.vend h b) r
    | .ok (r, p) => (s.admitVend k b r p).proceed))

/-- The checks of CONTINUE and ABANDON: part state (R155), then the vend number (R19, R20). -/
def State.vendNoChecks (s : State) (k : SlotNo) (vendNo : Nat) : List (Bool × Reason) :=
  s.partChecks ++ [((s.slot k).vend.any (fun v => v.number == some vendNo), .badField)]

/-- The slot leaves HELD: its compare channel is cleared and it is WORKING for the request. -/
def State.leaveHeld (s : State) (k : SlotNo) (i : Instr) : State := (s.setChannel k none).accept k i

/-- CONTINUE (R19). -/
def execContinueVend (h : Header) (vendNo : Nat) (s : State) : Out :=
  .next (s.take (.continueVend h vendNo) (fun s k =>
    match firstFailed (s.vendNoChecks k vendNo) with
    | some r => s.answerRefused k (.continueVend h vendNo) r
    | none =>
      let s := s.leaveHeld k (.continueVend h vendNo)
      (s.modSlot k (fun sl => { sl with vend := sl.vend.map (fun v => { v with batch := [] }) })).proceed))

/-- ABANDON (R20): the vend closes PARTIAL ABANDONED by R26. -/
def execAbandon (h : Header) (vendNo : Nat) (s : State) : Out :=
  .next (s.take (.abandon h vendNo) (fun s k =>
    match firstFailed (s.vendNoChecks k vendNo) with
    | some r => s.answerRefused k (.abandon h vendNo) r
    | none => ((s.leaveHeld k (.abandon h vendNo)).overtake k .abandoned).journalLook))

end Sys2Proof.Machine
end

