-- ==== Sys2Proof/Machine/Dispatch.lean ====
section
/-! DEFINITION. One arm per command: the direct call of its meaning. -/

namespace Sys2Proof.Machine

/-- The effect of a command on everything but the queue. -/
def exec (i : Instr) (s : State) : Host.Outcome State Fault Refusal :=
  match i with
  | .status h => Sys2Proof.Machine.execStatus h s
  | .meterQuery h meter => Sys2Proof.Machine.execMeterQuery h meter s
  | .floatQuery h => Sys2Proof.Machine.execFloatQuery h s
  | .vend h b => Sys2Proof.Machine.execVend h b s
  | .continueVend h vendNo => Sys2Proof.Machine.execContinueVend h vendNo s
  | .abandon h vendNo => Sys2Proof.Machine.execAbandon h vendNo s
  | .reprint h number => Sys2Proof.Machine.execReprint h number s
  | .shiftClose h => Sys2Proof.Machine.execShiftClose h s
  | .bind h b => Sys2Proof.Machine.execBind h b s
  | .unbind h target => Sys2Proof.Machine.execUnbind h target s
  | .meterHold h meter newState => Sys2Proof.Machine.execMeterHold h meter newState s
  | .enrol h b => Sys2Proof.Machine.execEnrol h b s
  | .retire h meter => Sys2Proof.Machine.execRetire h meter s
  | .meterUpdate h b => Sys2Proof.Machine.execMeterUpdate h b s
  | .tariffLoad h b => Sys2Proof.Machine.execTariffLoad h b s
  | .keyLoad h b => Sys2Proof.Machine.execKeyLoad h b s
  | .grantOpen h code complement => Sys2Proof.Machine.execGrantOpen h code complement s
  | .grant h b => Sys2Proof.Machine.execGrant h b s
  | .recall h amount => Sys2Proof.Machine.execRecall h amount s
  | .clockSet h seconds month => Sys2Proof.Machine.execClockSet h seconds month s
  | .journalRead h number count => Sys2Proof.Machine.execJournalRead h number count s
  | .settle h number => Sys2Proof.Machine.execSettle h number s
  | .writeAddressByte b => Sys2Proof.Machine.execWriteAddressByte b s
  | .dataByte b => Sys2Proof.Machine.execDataByte b s
  | .emptyWrite => Sys2Proof.Machine.execEmptyWrite s
  | .badFrame => Sys2Proof.Machine.execBadFrame s
  | .readTransaction b => Sys2Proof.Machine.execReadTransaction b s
  | .supplyWarning => Sys2Proof.Machine.execSupplyWarning s
  | .warningClear => Sys2Proof.Machine.execWarningClear s
  | .warmReset straps => Sys2Proof.Machine.execWarmReset straps s
  | .supplyLoss => Sys2Proof.Machine.execSupplyLoss s
  | .coldStart straps => Sys2Proof.Machine.execColdStart straps s
  | .recoveryScanBegin => Sys2Proof.Machine.execRecoveryScanBegin s
  | .secondTick => Sys2Proof.Machine.execSecondTick s
  | .leaseExpiry k => Sys2Proof.Machine.execLeaseExpiry k s
  | .floatExpiry => Sys2Proof.Machine.execFloatExpiry s
  | .transformCompletion => Sys2Proof.Machine.execTransformCompletion s
  | .programCompletion verified => Sys2Proof.Machine.execProgramCompletion verified s
  | .voidMarkCompletion => Sys2Proof.Machine.execVoidMarkCompletion s
  | .eraseCompletion verified => Sys2Proof.Machine.execEraseCompletion verified s
  | .wornMarkWriteCompletion => Sys2Proof.Machine.execWornMarkWriteCompletion s
  | .openRecordWriteCompletion => Sys2Proof.Machine.execOpenRecordWriteCompletion s
  | .unitRecordWriteCompletion => Sys2Proof.Machine.execUnitRecordWriteCompletion s
  | .meterWriteCompletion => Sys2Proof.Machine.execMeterWriteCompletion s
  | .floatWriteCompletion => Sys2Proof.Machine.execFloatWriteCompletion s
  | .scheduleWriteCompletion => Sys2Proof.Machine.execScheduleWriteCompletion s
  | .stageWriteCompletion => Sys2Proof.Machine.execStageWriteCompletion s
  | .installWriteCompletion => Sys2Proof.Machine.execInstallWriteCompletion s
  | .settingsWriteCompletion => Sys2Proof.Machine.execSettingsWriteCompletion s
  | .settleHeaderWriteCompletion => Sys2Proof.Machine.execSettleHeaderWriteCompletion s
  | .addressByteForAnotherAddress b => Sys2Proof.Machine.execAddressByteForAnotherAddress b s
  | .acknowledgeFromMaster ack => Sys2Proof.Machine.execAcknowledgeFromMaster ack s
  | .readEnd => Sys2Proof.Machine.execReadEnd s

end Sys2Proof.Machine
end

