-- ==== Sys2Proof/Safety.lean ====
section
/-! DEFINITION. The predicates that statements about the machine are written in: a request that is presented and accepted,
what taking one leaves of its slot and of the port, what a reset keeps, and the invariants: the form of the two stores, the
clock, the scan that runs alone, the Journal's promises, the agreement of what is under way. -/

namespace Sys2Proof.Machine

/-! ### Requests -/

/-- The port holds a complete write on slot k whose frame is the request i, and ends it now (R184). -/
def State.Presented (s : State) (k : SlotNo) (at0 : SlotState) (i : Instr) : Prop :=
  s.watch.supply = true ∧ s.watch.resetLine = false ∧ s.port.target = .write k at0 false ∧
    parseFrame s.port.buffers[k] = some i

/-- The frame of i is handed on a bound slot and passes every check of R141. -/
def State.Accepted (s : State) (k : SlotNo) (i : Instr) (c : RequestCode) (h : Header) : Prop :=
  (∃ at0, at0 ≠ SlotState.unbound ∧ s.Presented k at0 i) ∧ i.request = some (c, h) ∧ (s.slot k).state ≠ .unbound ∧
    h.tag = (s.slot k).tag ∧ (∀ item, RequestCode.item c = some item → holdsItem (s.slot k).perms item = true) ∧
    (s.slot k).state.admits c = true

/-- The part state is RUN. -/
def State.Running (s : State) : Prop := s.watch.part = .run

/-- The Journal takes an admin request's entry (R120). -/
def State.TakesEntry (s : State) : Prop :=
  s.journal.mode = .normal ∧ s.journal.reserved + 1 ≤ s.journal.obtainable

/-- The first check of a table that does not hold, and its reason. -/
def FirstFailing : List (Prop × Reason) → Reason → Prop
  | [], _ => False
  | (check, reason) :: rest, r => ¬ check ∧ reason = r ∨ check ∧ FirstFailing rest r

/-- The part-state check of every request (R166). -/
def State.partTable (s : State) : List (Prop × Reason) :=
  [(s.watch.part ≠ .starting, .starting), (s.watch.part ≠ .holdup, .powerLow)]

/-- The Journal's checks of an admin request (R120). -/
def State.journalTable (s : State) : List (Prop × Reason) :=
  [(s.journal.mode = .normal, .storeFault), (s.journal.reserved + 1 ≤ s.journal.obtainable, .journalFull)]

/-- The fields of a TARIFF_LOAD are in range (R34, R37): of the first count block positions, every price, the thresholds
of all but the last, which rise, and the last one's, which is 0. -/
def TariffFieldsInRange (b : TariffBody) : Prop :=
  b.schedule ≤ 7 ∧ 1 ≤ b.count ∧ b.count ≤ 4 ∧
    (∀ i p, [b.pos1, b.pos2, b.pos3, b.pos4][i]? = some p →
      (i < b.count → 1 ≤ p.price ∧ p.price ≤ 100000) ∧ (i + 1 = b.count → p.threshold = 0) ∧
        (i + 1 < b.count → 1 ≤ p.threshold ∧ p.threshold ≤ 1000000) ∧
        ∀ q, i + 2 < b.count → [b.pos1, b.pos2, b.pos3, b.pos4][i + 1]? = some q → p.threshold < q.threshold) ∧
    b.fixed ≤ 100000 ∧ b.allowance ≤ 1000 ∧ 100 ≤ b.cap ∧ b.cap ≤ 65535 ∧ 100 ≤ b.maxTender ∧ b.maxTender ≤ 500000

/-- The port after a write of slot k has ended: FREE, the request buffer empty (R184). -/
def Port.ended (p : Port) (k : SlotNo) : Port := { p with target := .free, buffers := p.buffers.set k [] }

/-- The record of a slot that request c has made WORKING (R140, R142). -/
def Slot.taken (sl : Slot) (c : RequestCode) (h : Header) : Slot :=
  { sl with state := .working, held := none, notice := none, inHand := some (c.byte, h.seq) }

/-- The record of a slot in IDLE or HELD whose request c has been answered within the handling of its frame (R140). -/
def Slot.answered (sl : Slot) (c : RequestCode) (h : Header) (res : Result) (r : Option Reason) (body : List Byte) :
    Slot :=
  { sl with held := some (responseFrame c.byte h.seq res r body), notice := none }

/-- The record of a slot whose request c has made it WORKING and then failed a check of its own (R142). -/
def Slot.refused (sl : Slot) (c : RequestCode) (h : Header) (r : Reason) (body : List Byte) : Slot :=
  { sl with state := .idle, held := some (responseFrame c.byte h.seq .refused (some r) body), notice := none,
            inHand := none }

/-! ### Frames -/

/-- Slots outside a list keep their records. -/
def State.SlotsKept (s t : State) (touched : List SlotNo) : Prop := ∀ j, j ∉ touched → t.slot j = s.slot j

/-- The records a request may change and the slots other than its own are as they were. -/
def State.SameButSlot (s t : State) (k : SlotNo) : Prop :=
  t.watch = s.watch ∧ t.engine = s.engine ∧ t.former = s.former ∧ t.tariff = s.tariff ∧ t.meters = s.meters ∧
    t.float = s.float ∧ t.journal = s.journal ∧ t.clock = s.clock ∧ t.free = s.free ∧ t.pending = s.pending ∧
    s.SlotsKept t [k]

/-- The state in which request c of slot k has passed its checks, its entry being all it leaves: its write is ended, the
slot is WORKING with its operation recorded (R142), one entry slot is reserved (R119), and the entry stands at the tail of
the queue in the slot's place (R116). -/
def State.queuedFor (s : State) (k : SlotNo) (c : RequestCode) (h : Header) (b : EntryBody) : State :=
  { s with
    port := s.port.ended k
    slots := s.slots.set k { (s.slot k).taken c h with admin := some ⟨some b, .queued⟩ }
    journal := { s.journal with
      reserved := s.journal.reserved + 1, queue := s.journal.queue ++ [⟨.slot k, k, true, b⟩] } }

/-- The record of a slot whose admin request, in hand as code and sequence, has its DONE (R142). -/
def Slot.done (sl : Slot) (code seq : Byte) (body : List Byte) : Slot :=
  { sl with state := .idle, held := some (responseFrame code seq .done none body), inHand := none, admin := none }

/-- The record of a slot whose admin entry has committed and whose record write is owed (R118). -/
def Slot.writes (sl : Slot) : Slot :=
  { sl with admin := sl.admin.map (fun a => { a with phase := .writing }) }

/-! ### Prices -/

/-- The price of the tenth at a position (R35): that of the first block whose threshold is above it, or the last
block's. -/
def Schedule.priceAt (sch : Schedule) (t : Nat) : Nat :=
  ((sch.steps.find? (fun b => decide (t < b.threshold))).map (·.price)).getD sch.lastPrice

/-- The cost of a run of positions (R35). -/
def Schedule.cost (sch : Schedule) (pos n : Nat) : Nat := ((List.range n).map (fun i => sch.priceAt (pos + i))).sum

/-! ### Vends -/

/-- A vend that has entered CLOSING (R22, R26). -/
def Vend.closed (v : Vend) (e : Ending) (r : Option Reason) : Vend :=
  { v with phase := .closing, ending := some (e, r), pendingEnding := none }

/-- The VEND_END entry of slot k's vend in the queue, in the slot's own place (R23). -/
def Vend.endEntry (v : Vend) (k : SlotNo) (e : Ending) (r : Option Reason) : QEntry :=
  ⟨.slot k, k, true, .vendEnd ⟨v.number.getD 0, e, r, v.issued, v.undelivered⟩⟩

/-- The vend of slot k is in ISSUING with none of its units in progress and no pending ending. -/
def State.IssuingAlone (s : State) (k : SlotNo) (v : Vend) : Prop :=
  (s.slot k).vend = some v ∧ v.phase = .issuing ∧ v.pendingEnding = none ∧ s.engine.unitOf k = none

/-! ### Pages -/

/-- A page is the first in a state in circular order from the one after the tail, or from page 0 when there is no tail
(R110). -/
def Journal.FirstInOrder (j : Journal) (st : PageState) (p : Nat) : Prop :=
  ∃ i, i < 128 ∧ p = (j.tail.elim 0 (· + 1) + i) % 128 ∧ j.pageState p = st ∧
    ∀ i', i' < i → j.pageState ((j.tail.elim 0 (· + 1) + i') % 128) ≠ st

/-! ### Resets -/

/-- Every volatile state stands at the value of a reset and nothing is under way (R33, R56, R105, R135, R154, R159, R167,
R187). -/
def State.VolatileAtReset (t : State) : Prop :=
  t.watch.part = .starting ∧ t.watch.scan = ⟨.notBegun, 0, 0⟩ ∧ t.port.target = .free ∧
    (∀ k : SlotNo, t.port.buffers[k] = []) ∧ t.port.ackOut = none ∧ t.port.dataOut = none ∧
    t.slots = State.reset.slots ∧ t.engine = ⟨7, none⟩ ∧
    t.former.transform = none ∧ t.former.keyWrite = none ∧ (∀ g, (t.former.entry g).loading = false) ∧
    t.tariff.write = none ∧ (∀ n, (t.tariff.schedule n).loading = false) ∧
    t.meters.writes = [] ∧ (∀ c ∈ t.meters.cells, c.lock = none) ∧
    t.float.work = t.float.nv ∧ t.float.reservations = [] ∧ t.float.windowOpen = false ∧ t.float.state = .frozen ∧
    t.float.writes = [] ∧
    t.journal.mode = .normal ∧ t.journal.queue = [] ∧ t.journal.reserved = 0 ∧ t.journal.op = .idle ∧
    t.journal.failedOnce = false ∧ t.journal.header = none ∧
    (∀ k : SlotNo, t.clock.channels[k] = none) ∧ t.clock.settingsWrite = none

/-- The group a key table write is of. -/
def KeyWrite.group : KeyWrite → Fin 4
  | .stage g _ => g
  | .install g _ => g
  | .clear g => g

/-- A key table entry as a write of its group leaves it (R83, R84, R86). -/
def KeyWrite.made (w : KeyWrite) (e : KeyEntry) : KeyEntry :=
  match w with
  | .stage _ gen => { e with stage := some gen }
  | .install _ n => e.install n
  | .clear _ => { e with stage := none }

/-- The journal's store is kept but for what an operation was writing: one entry slot, or one page (R117, R124, R135,
R171). -/
def Journal.KeepsStore (j j' : Journal) : Prop :=
  (j.op = .idle → j'.store = j.store ∧ j'.worn = j.worn) ∧
    (∀ a n x, j.op = .program a n x → j'.worn = j.worn ∧ ∀ b, b ≠ a → j'.content b = j.content b) ∧
    (∀ a, j.op = .voidMark a → j'.worn = j.worn ∧ ∀ b, b ≠ a → j'.content b = j.content b) ∧
    (∀ p, j.op = .erase p → j'.worn = j.worn ∧ ∀ b, b / 32 ≠ p → j'.content b = j.content b) ∧
    ∀ p, j.op = .wornMark p → (∀ b, b / 32 ≠ p → j'.content b = j.content b) ∧
      ∀ q, q < 128 → q ≠ p → (q ∈ j'.worn ↔ q ∈ j.worn)

/-- What is nonvolatile is kept: each entry slot, page, schedule, supply group and record that no operation of s was
writing stands in t as in s, and a record under an atomic write is made whole or not made (R39, R55, R83, R84, R92, R131,
R163). -/
def State.KeepsRecords (s t : State) : Prop :=
  s.journal.KeepsStore t.journal ∧
    (t.journal.mark = s.journal.mark ∨ ∃ w, s.journal.header = some w ∧ t.journal.mark = w.target) ∧
    (t.meters.cells.map (·.record) = s.meters.cells.map (·.record) ∨
      ∃ w rest, s.meters.writes = w :: rest ∧
        t.meters.cells.map (·.record) = (writeCells s.meters.cells w).map (·.record)) ∧
    (t.float.nv = s.float.nv ∨ ∃ w rest, s.float.writes = w :: rest ∧ t.float.nv = w.record) ∧
    (∀ n : Nat, t.tariff.schedule n = { s.tariff.schedule n with loading := false } ∨
      ∃ b number, s.tariff.write = some (b, number) ∧ Fin.ofNat 8 b.schedule = Fin.ofNat 8 n ∧
        t.tariff.schedule n = Schedule.ofBody b number false) ∧
    (∀ g : Nat, t.former.entry g = { s.former.entry g with loading := false } ∨
      ∃ w, s.former.keyWrite = some w ∧ KeyWrite.group w = Fin.ofNat 4 g ∧
        t.former.entry g = { w.made (s.former.entry g) with loading := false }) ∧
    (t.clock.settingsMonth = s.clock.settingsMonth ∧ t.clock.settingsApplied = s.clock.settingsApplied ∨
      ∃ w, s.clock.settingsWrite = some w ∧ t.clock.settingsMonth = w.month ∧ t.clock.settingsApplied = w.number)

/-! ### Invariants -/

/-- Keys strictly rise. -/
abbrev Rising (keys : List Nat) : Prop := keys.Pairwise (· < ·)

/-- The journal's store and the meter table are in canonical form: no entry slot and no meter number twice, in order. -/
abbrev State.Canonical (s : State) : Prop :=
  Rising (s.journal.store.map (·.1)) ∧ Rising (s.meters.cells.map (·.record.number))

/-- Every entry in the store ends in the check of its bytes 0 to 61 (R113, R188). -/
def State.ChecksAgree (s : State) : Prop := ∀ c ∈ s.journal.store, ∀ e, c.2 = .written e → e.agrees = true

/-- While the clock is UNSET the seconds count holds 0 (R156). -/
def State.ClockHonest (s : State) : Prop := s.clock.state = .unset → s.clock.seconds = 0

/-- The round-robin position is a desk slot (R10). -/
def State.EngineOnDesks (s : State) : Prop := s.engine.position ≠ 0

/-- Compare channel 8, at index 0, holds the expiry time while the float is LIVE and none while it is FROZEN (R96). -/
def State.ChannelEight (s : State) : Prop :=
  s.clock.channels[(0 : Fin 8)] =
    match s.float.state with
    | .live => some s.float.work.expiry
    | .frozen => none

/-- Slot 0 vends nothing; a BIND that waits in the queue is of a desk slot; slot 0's operation in a stage write is a
KEY_LOAD (R83, R137, R143). -/
structure State.SlotZeroAdmin (s : State) : Prop where
  vend    : (s.slot 0).vend = none
  noVend  : holdsItem (s.slot 0).perms .vend = false
  binds   : ∀ e ∈ s.journal.queue, ∀ b, e.body = .bind b → b.target ≠ 0
  staging : ∀ b w, (s.slot 0).admin = some ⟨some b, .staging w⟩ → ∃ g r, b = .keyLoad g r

/-! ### Work under way -/

/-- The queue entries in a place (R116). -/
def State.inPlace (s : State) (p : Place) : List QEntry := s.journal.queue.filter (fun e => e.place == p)

/-- The meter record writes owed to an owner (R61). -/
def State.writesFor (s : State) (o : WriteOwner) : List MeterWrite := s.meters.writes.filter (fun w => w.owner == o)

/-- The meter record writes owed to the unit in progress (R16). -/
def State.unitWrites (s : State) : List MeterWrite :=
  s.meters.writes.filter (fun w => match w.owner with
    | .unit _ => true
    | _ => false)

/-- The points reserved for a slot (R93). -/
def State.reservedFor (s : State) (k : SlotNo) : Nat :=
  ((s.float.reservations.filter (fun r => r.slot == k)).map (·.amount)).sum

/-- The queue holds at most one entry in each place (R116). -/
def State.OnePerPlace (s : State) : Prop := ∀ p, (s.inPlace p).length ≤ 1

/-- The float law of R91: the reservations are within the balance. -/
def State.FloatLaw (s : State) : Prop := s.float.reservedPoints ≤ s.float.work.balance

/-- A scan stage after step 4, in which the scan places entries. -/
def ScanStage.places (st : ScanStage) : Prop := st = .closing ∨ st = .starting

/-- A scan stage in which the scan writes records (R176). -/
def ScanStage.writes (st : ScanStage) : Prop := st = .clearing ∨ ∃ rest, st = .replaying rest

/-- In STARTING the recovery scan runs alone: no vend, no admin operation, no unit, no claim; the store, the queue and the
records are the scan's (R33, R56, R93, R105, R119, R135, R154, R172). -/
structure State.ScanAlone (s : State) : Prop where
  slots   : ∀ k : SlotNo, (s.slot k).vend = none ∧ (s.slot k).admin = none ∧ (s.slot k).pendingChange = none ∧
    ((s.slot k).state = .idle ∨ (s.slot k).state = .unbound)
  unit    : s.engine.unit = none ∧ s.former.transform = none
  claims  : s.journal.reserved = 0 ∧ s.float.reservations = [] ∧ s.journal.header = none
  queue   : s.journal.queue.length ≤ 1 ∧ ∀ e ∈ s.journal.queue, e.reserved = false ∧
    ((∃ d, e.body = .vendEnd d) ∨ ∃ kind a b, e.body = .start kind a b)
  placing : s.watch.scan.stage.places ∨ s.journal.queue = [] ∧ s.journal.failedOnce = false
  op      : s.watch.scan.stage.places ∨ s.journal.op = .idle ∨
    (∃ rest a, s.watch.scan.stage = .voiding rest ∧ s.journal.op = .voidMark a) ∨
    ∃ rest p, s.watch.scan.stage = .erasing rest ∧ (s.journal.op = .erase p ∨ s.journal.op = .wornMark p)
  owners  : (∀ w ∈ s.meters.writes, w.owner = .replay) ∧ (∀ w ∈ s.float.writes, w.done = .nothing) ∧
    (∀ w, s.clock.settingsWrite = some w → w.live = false) ∧ ∀ g gen, s.former.keyWrite ≠ some (.stage g gen)
  writes  : s.watch.scan.stage.writes ∨
    s.meters.writes = [] ∧ s.tariff.write = none ∧ s.clock.settingsWrite = none ∧ s.former.keyWrite = none
  frozen  : s.watch.scan.stage = .ended ∨ s.float.state = .frozen

/-- The part is not in STARTING, or its scan runs alone. -/
def State.StartingAlone (s : State) : Prop := s.watch.part = .starting → s.ScanAlone

/-- What the Journal has promised (R110, R117, R119): a program's entry slot is a blank one of the tail, a void mark under
way outside the scan is of an entry slot that is not blank, every entry that waits outside the scan holds a reservation,
and in NORMAL mode the reserved count is within the obtainable entry slots (R121, R125). -/
structure State.PromisesKept (s : State) : Prop where
  atHand   : ∀ a n x, s.journal.op = .program a n x →
    s.journal.content a = none ∧ s.journal.tail = some (a / 32) ∧ a / 32 ∉ s.journal.worn ∧ a < 4096
  reserves : s.watch.part ≠ .starting → ∀ e ∈ s.journal.queue, e.reserved = true
  marking  : s.watch.part ≠ .starting → ∀ a, s.journal.op = .voidMark a → s.journal.content a ≠ none
  reserved : s.journal.mode = .normal → s.journal.reserved ≤ s.journal.obtainable

/-- The settle mark and the target of a SETTLE are within the last committed number and below every open vend, and a
program takes the next number (R111, R131). -/
structure State.SettleOrdered (s : State) : Prop where
  mark    : s.journal.mark ≤ s.journal.last
  header  : ∀ w, s.journal.header = some w → s.journal.mark ≤ w.target ∧ w.target ≤ s.journal.last
  program : ∀ a n x, s.journal.op = .program a n x → n = s.journal.last + 1
  vends   : ∀ v ∈ s.openVends, s.journal.mark < v ∧ v ≤ s.journal.last ∧ ∀ w, s.journal.header = some w → w.target < v

/-- A vend agrees with the queue, the writes owed, the unit in progress and the reservations (R7, R9, R10, R12, R13, R23,
R31, R93). -/
structure State.VendCoherent (s : State) (k : SlotNo) (v : Vend) : Prop where
  desk     : k ≠ 0
  alone    : (s.slot k).admin = none
  state    : (s.slot k).state = .working ∨
    (s.slot k).state = .held ∧ v.phase = .issuing ∧ v.pendingEnding = none ∧ s.engine.unitOf k = none
  waiting  : v.phase = .opening → v.number = none →
    s.engine.unitOf k = none ∧ s.writesFor (.opening k) = [] ∧
      (v.openQueued = false → s.inPlace (.slot k) = []) ∧
      (v.openQueued = true → ∃ e o, s.inPlace (.slot k) = [e] ∧ e.body = .vendOpen o)
  opened   : ∀ n, v.phase = .opening → v.number = some n →
    s.engine.unitOf k = none ∧ v.openQueued = true ∧ s.inPlace (.slot k) = [] ∧
      (s.writesFor (.opening k)).map (·.number) = [n]
  issuing  : v.phase = .issuing → s.inPlace (.slot k) = [] ∧ s.writesFor (.opening k) = [] ∧ v.number ≠ none
  closing  : v.phase = .closing → s.engine.unitOf k = none ∧ v.pendingEnding = none ∧ s.writesFor (.opening k) = [] ∧
    ∃ e d, s.inPlace (.slot k) = [e] ∧ e.body = .vendEnd d
  failed   : s.journal.mode = .failed → s.engine.applying k = true
  reserved : v.plan.value ≤ s.reservedFor k

/-- The entries an admin request places; the first five kinds are slot 0's alone (R114). -/
def EntryBody.slotZero : EntryBody → Bool
  | .grant _ _ _ _ => true
  | .recall _ => true
  | .keyLoad _ _ => true
  | .tariffLoad _ => true
  | .clockSet _ _ _ => true
  | _ => false

/-- The body is one an admin request places (R114). -/
def EntryBody.admin : EntryBody → Bool
  | .vendOpen _ => false
  | .token _ => false
  | .vendEnd _ => false
  | .start _ _ _ => false
  | _ => true

/-- How far an admin operation is agrees with the queue and the writes (R83, R116, R131, R136, R147). -/
def State.PhaseCoherent (s : State) (k : SlotNo) (a : AdminOp) : Prop :=
  match a.phase, a.entry with
  | .queued, some b => s.inPlace (.slot k) = [adminEntry k b] ∧ s.journal.mode = .normal ∧ b.admin = true
  | .waiting, some (.unbind t) => t ≠ k ∧ s.inPlace (.slot k) = [] ∧ ((s.slot t).vend ≠ none ∨ (s.slot t).admin ≠ none)
  | .staging _, some (.keyLoad _ _) => k = 0 ∧ s.inPlace (.slot k) = [] ∧ s.journal.mode = .normal ∧
      ∃ g gen, s.former.keyWrite = some (.stage g gen)
  | .writing, some b => s.inPlace (.slot k) = [] ∧ b.admin = true
  | .header, none => k = 0 ∧ s.inPlace (.slot k) = [] ∧ s.journal.header ≠ none
  | _, _ => False

/-- The values of an admin entry agree with the marks and the reservation its request has made (R102, R137, R144, R147). -/
def State.EntryCoherent (s : State) (k : SlotNo) (a : AdminOp) : Prop :=
  match a.entry with
  | some (.unbind t) => t ≠ 0 ∧ (s.slot t).pendingChange = some (.unbindBy k) ∧ (a.phase = .queued ∨ a.phase = .waiting)
  | some (.bind e) => a.phase = .queued ∧ e.target ≠ 0 ∧ (s.slot e.target).pendingChange = some (.bindBy k) ∧
      (s.slot e.target).state = .unbound ∧ holdsItem e.perms .settlement = false
  | some (.recall n) => k = 0 ∧ (a.phase = .queued → n * 100 ≤ s.reservedFor 0)
  | some b => b.slotZero = true → k = 0
  | none => True

/-- A slot with no vend agrees with the queue, the writes owed and its admin operation (R136). -/
structure State.AdminCoherent (s : State) (k : SlotNo) : Prop where
  unit    : s.engine.unitOf k = none
  opening : s.journal.mode = .failed ∨ s.writesFor (.opening k) = []
  idle    : (s.slot k).admin = none → s.inPlace (.slot k) = [] ∧
    ((s.slot k).state = .idle ∨ (s.slot k).state = .unbound ∨
      (s.slot k).state = .working ∧ ∃ j, j ≠ k ∧ (s.slot k).pendingChange = some (.unbindBy j))
  busy    : ∀ a, (s.slot k).admin = some a →
    (s.slot k).state = .working ∧ s.PhaseCoherent k a ∧ s.EntryCoherent k a

/-- A pending change is that of the request that made it (R144, R147). -/
def State.PendingCoherent (s : State) (k : SlotNo) : Prop :=
  match (s.slot k).pendingChange with
  | none => True
  | some (.unbindBy j) => (s.slot k).state = .working ∧
      ((s.slot j).admin = some ⟨some (.unbind k), .queued⟩ ∧
          (j = k ∨ (s.slot k).vend = none ∧ (s.slot k).admin = none) ∨
        (s.slot j).admin = some ⟨some (.unbind k), .waiting⟩ ∧ j ≠ k)
  | some (.bindBy j) => (s.slot k).state = .unbound ∧ (s.slot k).vend = none ∧ (s.slot k).admin = none ∧
      ∃ e, (s.slot j).admin = some ⟨some (.bind e), .queued⟩ ∧ e.target = k

/-- The record writes that end the admin request of a slot (R39, R63, R84, R92, R163). -/
def State.answersOwed (s : State) (k : SlotNo) : Nat :=
  (s.writesFor (.admin k)).length +
    if k = 0 then
      (s.float.writes.filter (fun w => w.done != .nothing)).length + s.tariff.write.isSome.toNat +
        (match s.former.keyWrite with
          | some (.install _ _) => 1
          | _ => 0) + s.clock.settingsWrite.isSome.toNat
    else 0

/-- The unit in progress agrees with its vend, the transform, the engine's place and the writes owed (R10, R14 to R16). -/
def State.UnitCoherent (s : State) : Prop :=
  match s.engine.unit with
  | none => s.former.transform = none ∧ s.unitWrites = [] ∧ s.inPlace .engine = []
  | some u =>
    if u.discarded then
      u.stage = .forming ∧ s.former.transform ≠ none ∧ s.unitWrites = [] ∧ s.inPlace .engine = []
    else
      (∃ v, (s.slot u.slot).vend = some v ∧ v.phase = .issuing) ∧ (s.slot u.slot).state = .working ∧
        match u.stage with
        | .forming => s.former.transform ≠ none ∧ s.unitWrites = [] ∧ s.inPlace .engine = []
        | .committing => s.former.transform = none ∧ s.unitWrites = [] ∧ (s.inPlace .engine).map (·.slot) = [u.slot]
        | .applying => s.former.transform = none ∧ s.unitWrites.length = 1 ∧ s.inPlace .engine = []

/-- Out of STARTING the slots, the queue, the engine and the writes owed agree with one another. -/
structure State.RunCoherent (s : State) : Prop where
  vends   : ∀ k v, (s.slot k).vend = some v → s.VendCoherent k v
  admins  : ∀ k, (s.slot k).vend = none → s.AdminCoherent k
  pending : ∀ k, s.PendingCoherent k
  quiet   : ∀ k, (s.slot k).state = .idle ∨ (s.slot k).state = .unbound →
    (s.slot k).vend = none ∧ (s.slot k).admin = none
  owed    : ∀ k, s.answersOwed k = (s.slot k).writing.toNat
  header  : s.journal.header ≠ none → (s.slot 0).admin = some ⟨none, .header⟩
  stage   : ∀ g gen, s.former.keyWrite = some (.stage g gen) →
    s.journal.mode = .failed ∨ ∃ e w, (s.slot 0).admin = some ⟨e, .staging w⟩
  live    : (∀ g, s.former.keyWrite ≠ some (.clear g)) ∧ (∀ w, s.clock.settingsWrite = some w → w.live = true) ∧
    s.writesFor .replay = [] ∧ s.watch.scan.stage = .ended
  queue   : ∀ e ∈ s.journal.queue, e.reserved = true ∧
    ((e.place = .engine ∧ ∃ t, e.body = .token t) ∨ e.place = .slot e.slot)
  failed  : s.journal.mode = .failed → s.journal.queue = []
  unit    : s.UnitCoherent

/-- The part agrees with itself: what each slot has under way stands in the queue, the engine, the writes owed and the
reservation list once and only there, and the float law holds. Every clause is the model's reading of R7 to R17, R83, R91,
R93, R114, R116, R136 and R147; together they are what keeps one entry in each place and the reservations within the
balance. -/
structure State.Coherent (s : State) : Prop where
  starting    : s.StartingAlone
  run         : s.watch.part ≠ .starting → s.RunCoherent
  permissions : holdsItem (s.slot 0).perms .vend = false ∧ ∀ k : SlotNo, k ≠ 0 → holdsItem (s.slot k).perms .settlement = false
  floatLaw    : s.FloatLaw

end Sys2Proof.Machine
end

