-- ==== Sys2Proof/WellFormed.lean ====
section
/-! DEFINITION. Which commands can be sent: every number of a request fits its width in the frame (R189, R190), and a
lease expiry names one of the channels 1 to 7 (R159). Bit fields fit by their types. -/

namespace Sys2Proof

/-- Each number fits its width in bytes. -/
def fieldsFit : List Nat → List Nat → Bool
  | [], [] => true
  | w :: ws, v :: vs => decide (v < 256 ^ w) && fieldsFit ws vs
  | _, _ => false

/-- A command that the outside can send. -/
def WellFormed (i : Instr) : Bool :=
  match i with
  | .leaseExpiry k => k != 0
  | _ =>
    match i.request with
    | none => true
    | some (c, _) => fieldsFit c.widths i.fields

end Sys2Proof
end

