-- ==== Sys2Proof/Certificates/Slice0/Obligations.lean ====
section
/-! DEFINITION. The statements for the provers. Each docstring names the rules a statement follows and, where it rests on
a choice of the model, the log entry. -/

open Sys2Proof Sys2Proof.Machine

/-! ### The step -/

/-- A step takes the command at the front of the queue and is exec of it on the state with the queue's rest; on an empty
queue the part idles (LOG 2, the model's choice). -/
def Obligations.StepTakesTheFrontCommand : Prop :=
  (∀ (c : Instr) (rest : List Instr) (s : State), step { s with pending := c :: rest } = exec c { s with pending := rest }) ∧
    ∀ s : State, s.pending = [] → step s = .next s

/-- Every command answers a next state in every state (LOG 1: one that the state does not offer changes nothing), and
none touches the waiting commands or the strapped office code. -/
def Obligations.EveryCommandAnswersNext : Prop :=
  ∀ (i : Instr) (s : State), ∃ t, exec i s = .next t ∧ t.pending = s.pending ∧ t.float.officeCode = s.float.officeCode

/-! ### Invariants and reset -/

/-- Every step keeps the journal's store and the meter table in canonical form: no two records with the same meter
number (R54), no entry slot listed twice (R108). Every step keeps that each entry in the store ends in the check of its
bytes 0 to 61 (R113, R117, R188; the packing of the body is LOG 24). -/
def Obligations.StepKeepsCanonicalForm : Prop :=
  (∀ s t : State, s.Canonical → step s = .next t → t.Canonical) ∧
    ∀ s t : State, s.ChecksAgree → step s = .next t → t.ChecksAgree

/-- Every step keeps: the seconds count is 0 while the clock is UNSET (R156); the round-robin position is a desk slot
(R10). -/
def Obligations.StepKeepsClockAndEngine : Prop :=
  ∀ s t : State, s.ClockHonest ∧ s.EngineOnDesks → step s = .next t → t.ClockHonest ∧ t.EngineOnDesks

/-- Every step keeps that in STARTING the recovery scan runs alone: no vend, admin operation, unit, pending change,
reservation or reserved entry slot; at most one entry in the queue, the scan's; no entry before its fifth step; the
store's operation the step's own; no owed write but the replay's; the float FROZEN until the judgement (R33, R93, R105,
R119, R135, R154, R172, R176 to R178). -/
def Obligations.ScanRunsAlone : Prop :=
  ∀ s t : State, s.StartingAlone → step s = .next t → t.StartingAlone

/-- Every step keeps compare channel 8 in step with the float state: the expiry time while LIVE, none while FROZEN
(R96). The premises are invariants of the model: the scan runs alone (ScanRunsAlone), and slot 0 vends nothing and never
enters HELD (R137), which this statement says is kept too. -/
def Obligations.StepKeepsChannelEight : Prop :=
  ∀ s t : State, s.StartingAlone → s.SlotZeroAdmin → s.ChannelEight → step s = .next t → t.SlotZeroAdmin ∧ t.ChannelEight

/-- In NORMAL mode every step keeps the reserved count within the obtainable entry slots, and with it that a program's
entry slot is a blank one of the tail, that a void mark outside the scan is of an entry slot that is not blank, and that
every entry waiting outside the scan holds a reservation (R110, R117, R119, R121). An entry slot whose program failed
counts as used from the program's completion on, when R121 is applied (R112; what it holds until its void mark is LOG
12, the order is LOG 11, the model's readings). The premises: the stores are canonical (StepKeepsCanonicalForm), the
scan runs alone (ScanRunsAlone), and out of STARTING the settle mark is in order, which the second clause says is kept
until the next reset: the mark and the target of a SETTLE are within the last committed number and below every open
vend, and a program takes the next number (R111, R131). -/
def Obligations.StepKeepsReservedWithinObtainable : Prop :=
  (∀ s t : State, s.Canonical → s.StartingAlone → (s.watch.part ≠ .starting → s.SettleOrdered) → s.PromisesKept →
    step s = .next t → t.PromisesKept) ∧
  ∀ s t : State, s.watch.part ≠ .starting → s.SettleOrdered → step s = .next t → t.watch.part ≠ .starting →
    t.SettleOrdered

/-- Every step keeps the part coherent: what each slot has under way stands once in the queue, the engine, the writes
owed and the reservation list. A coherent part holds at most one queue entry in each place (R116) and its reservations
are within the balance (R91). State.Coherent is the model's reading of R7 to R17, R83, R93, R114, R136 and R147. -/
def Obligations.StepKeepsCoherence : Prop :=
  (∀ s t : State, s.Coherent → step s = .next t → t.Coherent) ∧
    ∀ s : State, s.Coherent → s.OnePerPlace ∧ s.float.reservedPoints ≤ s.float.work.balance

/-- The state after reset meets every invariant that the statements about a step keep. -/
def Obligations.ResetMeetsInvariants : Prop :=
  State.reset.Canonical ∧ State.reset.ChecksAgree ∧ State.reset.ClockHonest ∧ State.reset.EngineOnDesks ∧
    State.reset.StartingAlone ∧ State.reset.SlotZeroAdmin ∧ State.reset.ChannelEight ∧ State.reset.PromisesKept ∧
    State.reset.SettleOrdered ∧ State.reset.Coherent

/-- The part as delivered, right after a cold start: slots (R154), float record and volatile float state (R91, R105),
engine (R10), tables (R36, R56, R80), journal (R108, R129, R135), clock (R156, R159), part state (R166). -/
def Obligations.ResetLeavesDeliveredPart : Prop :=
  State.reset.watch.part = .starting ∧
    (∀ k : SlotNo, k ≠ 0 → State.reset.slot k =
      { state := .unbound, tag := 0, cls := none, perms := 0, lease := 120, vend := none, admin := none, inHand := none,
        pendingChange := none, lastEnding := none, till := ⟨0, 0, 0, 0⟩, held := none, notice := none }) ∧
    State.reset.slot 0 =
      { state := .idle, tag := 0, cls := some .settlement, perms := 0b1111010, lease := 120, vend := none, admin := none,
        inHand := none, pendingChange := none, lastEnding := none, till := ⟨0, 0, 0, 0⟩, held := none, notice := none } ∧
    State.reset.float.nv = ⟨0, 0, 0, 0, 0⟩ ∧ State.reset.float.work = ⟨0, 0, 0, 0, 0⟩ ∧
    State.reset.float.reservations = [] ∧ State.reset.float.windowOpen = false ∧ State.reset.float.state = .frozen ∧
    State.reset.engine = ⟨7, none⟩ ∧ State.reset.former.transform = none ∧ State.reset.meters.cells = [] ∧
    (∀ g : Nat, State.reset.former.entry g = ⟨none, none, none, 0, false⟩) ∧
    (∀ n : Nat, State.reset.tariff.schedule n = ⟨[], 100000, 0, 0, 100, 100, 0, false⟩) ∧
    State.reset.journal.store = [] ∧ State.reset.journal.worn = [] ∧ State.reset.journal.mark = 0 ∧
    State.reset.journal.queue = [] ∧ State.reset.journal.reserved = 0 ∧ State.reset.journal.mode = .normal ∧
    State.reset.journal.obtainable = 4096 ∧
    State.reset.clock.state = .unset ∧ State.reset.clock.seconds = 0 ∧
    State.reset.clock.settingsMonth = 0 ∧ State.reset.clock.settingsApplied = 0 ∧
    (∀ k : SlotNo, State.reset.clock.channels[k] = none) ∧
    State.reset.port.target = .free ∧ ∀ k : SlotNo, State.reset.port.buffers[k] = []

/-! ### Request frames -/

/-- The frame of every request whose fields fit their widths spells that request again: no bit of a frame is dropped
(R188, R189, R190). -/
def Obligations.RequestFramesRoundTrip : Prop :=
  ∀ i : Instr, WellFormed i = true → i.request.isSome = true → parseFrame (encodeFrame i) = some i

/-! ### The counter bus -/

/-- A write address byte of slot k is (0x28 + 16 s + k) × 2 under strap value s and its read address byte one more; a
write is acknowledged unless the slot is WORKING; an address outside the eight is not acknowledged; with the reset line
asserted or without supply no address byte is acknowledged (R138, R181, R182; the outputs are LOG 5). -/
def Obligations.AddressBytesAnswered : Prop :=
  (∀ (straps : Fin 4) (k : SlotNo), (writeByte straps k).toNat = (0x28 + 16 * straps.val + k.val) * 2 ∧
    (readByte straps k).toNat = (0x28 + 16 * straps.val + k.val) * 2 + 1) ∧
  (∀ (s : State) (k : SlotNo), s.answering = true → s.port.awaitsAddress = true →
    exec (.writeAddressByte (writeByte s.port.straps k)) s = .next (
      if (s.slot k).state = .working then { s with port := { s.port with target := .passed, ackOut := some false } }
      else { s with port := { s.port with
        target := .write k (s.slot k).state false, buffers := s.port.buffers.set k [], ackOut := some true } })) ∧
  (∀ (s : State) (b : Byte), s.answering = true → s.port.awaitsAddress = true →
    (∀ k : SlotNo, b ≠ writeByte s.port.straps k ∧ b ≠ readByte s.port.straps k) →
    exec (.addressByteForAnotherAddress b) s =
      .next { s with port := { s.port with target := .passed, ackOut := some false } }) ∧
  ∀ (s : State) (b : Byte), s.answering = false →
    exec (.writeAddressByte b) s = .next { s with port := { s.port with ackOut := some false } } ∧
      exec (.addressByteForAnotherAddress b) s = .next { s with port := { s.port with ackOut := some false } } ∧
      exec (.readTransaction b) s = .next { s with port := { s.port with ackOut := some false } }

/-- In WRITE a data byte is stored and acknowledged while fewer than 64 bytes have been taken; the 65th and every later
one is not stored and not acknowledged and sets the overrun flag; the slot's state is not looked at (R183). -/
def Obligations.DataByteStoredOrOverrun : Prop :=
  ∀ (s : State) (k : SlotNo) (at0 : SlotState) (overrun : Bool) (b : Byte),
    s.answering = true → s.port.target = .write k at0 overrun →
    exec (.dataByte b) s = .next (
      if s.port.buffers[k].length < 64 then
        { s with port := { s.port with
          buffers := s.port.buffers.set k (s.port.buffers[k] ++ [b]), ackOut := some true } }
      else { s with port := { s.port with target := .write k at0 true, ackOut := some false } })

/-- A write with no data byte hands nothing; a write whose frame fails the frame checks is refused BAD_FRAME with its
bytes 4 and 5 echoed (0x00 where not taken), into the held response of a bound slot and into the unbound notice of a
slot UNBOUND at the address byte or now (R138, R184, R191). The refusal's body is empty whatever request byte 4 names
(LOG 34, the model's choice). -/
def Obligations.WritesWithoutARequest : Prop :=
  (∀ (s : State) (k : SlotNo) (at0 : SlotState) (overrun : Bool), s.answering = true →
    s.port.target = .write k at0 overrun → s.port.buffers[k] = [] →
    exec .emptyWrite s = .next { s with port := s.port.ended k }) ∧
  ∀ (s : State) (k : SlotNo) (at0 : SlotState) (overrun : Bool) (bytes : List Byte), s.answering = true →
    s.port.target = .write k at0 overrun → s.port.buffers[k] = bytes → bytes ≠ [] →
    (overrun = true ∨ parseFrame bytes = none) →
    ∃ t, exec .badFrame s = .next t ∧ t.port = s.port.ended k ∧ s.SameButSlot t k ∧
      t.slot k =
        (if at0 = .unbound ∨ (s.slot k).state = .unbound then
          { s.slot k with notice := some ⟨bytes.getD 4 0, bytes.getD 5 0, .badFrame⟩ }
        else if (s.slot k).state = .working then
          { s.slot k with
            held := some (responseFrame (bytes.getD 4 0) (bytes.getD 5 0) .refused (some .badFrame) []) }
        else
          { s.slot k with
            held := some (responseFrame (bytes.getD 4 0) (bytes.getD 5 0) .refused (some .badFrame) [])
            notice := none })

/-- A read's address byte is acknowledged whatever the slot's state and fixes a copy of the slot's frame; each byte goes
after an acknowledge, 0xFF beyond the frame; a not-acknowledge stops the sending; the end of the read frees the port.
Nothing but the port changes (R182, R185; the outputs ackOut and dataOut are LOG 5). The frame: in UNBOUND the held
response or else the unbound notice frame, in IDLE the held response or else the blank frame, in WORKING a NOT_READY
frame for the request in hand, in HELD the held response (R139). -/
def Obligations.ReadsServeAFixedCopy : Prop :=
  (∀ (s : State) (k : SlotNo), s.answering = true → s.port.awaitsAddress = true →
    exec (.readTransaction (readByte s.port.straps k)) s = .next { s with port := { s.port with
      target := .read k (s.slot k).readFrame 1 false, ackOut := some true
      dataOut := some ((s.slot k).readFrame.getD 0 0xFF) } }) ∧
  (∀ (s : State) (k : SlotNo) (f : List Byte) (pos : Nat), s.port.target = .read k f pos false →
    exec (.acknowledgeFromMaster true) s = .next { s with port := { s.port with
      target := .read k f (pos + 1) false, dataOut := some (f.getD pos 0xFF) } } ∧
    exec (.acknowledgeFromMaster false) s = .next { s with port := { s.port with
      target := .read k f pos true, dataOut := none } }) ∧
  (∀ (s : State) (k : SlotNo) (f : List Byte) (pos : Nat) (stopped : Bool),
    s.port.target = .read k f pos stopped →
    exec .readEnd s = .next { s with port := { s.port with target := .free, dataOut := none } }) ∧
  (∀ s : State, s.port.target = .passed → exec .readEnd s = .next { s with port := { s.port with target := .free } }) ∧
  ∀ sl : Slot,
    (∀ f, sl.held = some f → sl.state ≠ .working → sl.readFrame = f) ∧
    (sl.state = .working → ∀ c q, sl.inHand = some (c, q) → sl.readFrame = responseFrame c q .notReady none []) ∧
    (sl.state = .idle → sl.held = none → sl.readFrame = responseFrame 0 0 .done none []) ∧
    (sl.state = .unbound → sl.held = none → ∀ n, sl.notice = some n →
      sl.readFrame = responseFrame n.code n.seq .refused (some n.reason) []) ∧
    (sl.state = .unbound → sl.held = none → sl.notice = none →
      sl.readFrame = responseFrame 0 0 .refused (some .notBound) [])

/-- The checks made of every frame that is a request, in order. A slot UNBOUND at the address byte of its write or at
its handing refuses it NOT_BOUND into the unbound notice, and nothing else changes but the port (R138, R184). On a bound
slot: tag, permission, slot state; the first that fails refuses the request at once, and nothing changes but the port,
the held response and the unbound notice (R140, R141). -/
def Obligations.ChecksOfARequestRefuseInOrder : Prop :=
  (∀ (s : State) (k : SlotNo) (at0 : SlotState) (i : Instr) (c : RequestCode) (h : Header),
    s.Presented k at0 i → i.request = some (c, h) → (at0 = .unbound ∨ (s.slot k).state = .unbound) →
    exec i s = .next { s with
      port := s.port.ended k, slots := s.slots.set k { s.slot k with notice := some ⟨c.byte, h.seq, .notBound⟩ } }) ∧
  ∀ (s : State) (k : SlotNo) (at0 : SlotState) (i : Instr) (c : RequestCode) (h : Header) (r : Reason),
    s.Presented k at0 i → i.request = some (c, h) → at0 ≠ .unbound → (s.slot k).state ≠ .unbound →
    (r = .tagMismatch ∧ h.tag ≠ (s.slot k).tag ∨
      r = .notPermitted ∧ h.tag = (s.slot k).tag ∧
        (∃ item, RequestCode.item c = some item ∧ holdsItem (s.slot k).perms item = false) ∨
      r = .wrongState ∧ h.tag = (s.slot k).tag ∧
        (∀ item, RequestCode.item c = some item → holdsItem (s.slot k).perms item = true) ∧
        (s.slot k).state.admits c = false) →
    ∃ t, exec i s = .next t ∧ t.port = s.port.ended k ∧ s.SameButSlot t k ∧
      t.slot k = { s.slot k with
        held := some (responseFrame c.byte h.seq .refused (some r) (s.refusalBody k i r))
        notice := if (s.slot k).state = .working then (s.slot k).notice else none }

/-! ### Requests answered at once -/

/-- STATUS, METER_QUERY and FLOAT_QUERY are answered at once in RUN, from the records as they stand: DONE, or for a
METER_QUERY REFUSED BAD_FIELD for a number out of range and UNKNOWN_METER for one not in the table; nothing changes but
the port, the held response and the unbound notice (R64, R104, R140, R152). The layout of the bodies where the spec
gives none is LOG 17. -/
def Obligations.QueriesAnsweredAtOnce : Prop :=
  (∀ (s : State) (k : SlotNo) (h : Header), s.Accepted k (.status h) .status h → s.Running →
    exec (.status h) s = .next { s with
      port := s.port.ended k, slots := s.slots.set k ((s.slot k).answered .status h .done none (s.statusBody k)) }) ∧
  (∀ (s : State) (k : SlotNo) (h : Header) (m : Nat) (cell : MeterCell),
    s.Accepted k (.meterQuery h m) .meterQuery h → s.Running → 1 ≤ m → m ≤ 99999999999 →
    s.meters.lookup m = some cell →
    exec (.meterQuery h m) s = .next { s with
      port := s.port.ended k, slots := s.slots.set k ((s.slot k).answered .meterQuery h .done none cell.bytes) }) ∧
  (∀ (s : State) (k : SlotNo) (h : Header) (m : Nat), s.Accepted k (.meterQuery h m) .meterQuery h → s.Running →
    (m = 0 ∨ 99999999999 < m → exec (.meterQuery h m) s = .next { s with
      port := s.port.ended k
      slots := s.slots.set k ((s.slot k).answered .meterQuery h .refused (some .badField) []) }) ∧
    (1 ≤ m → m ≤ 99999999999 → s.meters.lookup m = none → exec (.meterQuery h m) s = .next { s with
      port := s.port.ended k
      slots := s.slots.set k ((s.slot k).answered .meterQuery h .refused (some .unknownMeter) []) })) ∧
  ∀ (s : State) (k : SlotNo) (h : Header), s.Accepted k (.floatQuery h) .floatQuery h → s.Running →
    exec (.floatQuery h) s = .next { s with
      port := s.port.ended k, slots := s.slots.set k ((s.slot k).answered .floatQuery h .done none s.float.bytes) }

/-- In RUN, JOURNAL_READ of a number in the store gives its records and the trailer; REPRINT of a TOKEN entry of the
slot's own, or of any slot with CROSS_READ, gives the token (R132, R133; layouts LOG 17). The refusals, in order:
BAD_FIELD for a number or count out of range, ENTRY_GONE for a number not in the store, and for REPRINT BAD_FIELD for an
entry that is no TOKEN, NOT_PERMITTED for another slot's. A number up to the last is in the store when it is at or above
the first there (R112). Nothing changes but the port, the held response and the unbound notice. -/
def Obligations.JournalServedAtOnce : Prop :=
  (∀ (s : State) (k : SlotNo) (h : Header) (n count : Nat), s.Accepted k (.journalRead h n count) .journalRead h →
    s.Running → 1 ≤ n → n ≤ s.journal.last → 1 ≤ count → count ≤ 3 → s.journal.inStore n = true →
    exec (.journalRead h n count) s = .next { s with
      port := s.port.ended k
      slots := s.slots.set k ((s.slot k).answered .journalRead h .done none
        ((s.journal.records count n 84).flatten ++ beBytes 1 (s.journal.records count n 84).length ++
          beBytes 4 s.journal.last ++ beBytes 4 (s.journal.firstNumber.getD 0) ++ beBytes 4 s.journal.mark)) }) ∧
  (∀ (s : State) (k : SlotNo) (h : Header) (n count : Nat) (r : Reason),
    s.Accepted k (.journalRead h n count) .journalRead h → s.Running →
    (r = .badField ∧ (n = 0 ∨ s.journal.last < n ∨ count = 0 ∨ 3 < count) ∨
      r = .entryGone ∧ 1 ≤ n ∧ n ≤ s.journal.last ∧ 1 ≤ count ∧ count ≤ 3 ∧ s.journal.inStore n = false) →
    exec (.journalRead h n count) s = .next { s with
      port := s.port.ended k
      slots := s.slots.set k ((s.slot k).answered .journalRead h .refused (some r) []) }) ∧
  (∀ (s : State) (k : SlotNo) (h : Header) (n : Nat) (r : Reason), s.Accepted k (.reprint h n) .reprint h → s.Running →
    (r = .badField ∧ (n = 0 ∨ s.journal.last < n) ∨
      1 ≤ n ∧ n ≤ s.journal.last ∧
        (r = .entryGone ∧ s.journal.inStore n = false ∨
          s.journal.inStore n = true ∧
            (r = .badField ∧ (∀ e t, s.journal.entry? n = some e → e.body ≠ .token t) ∨
              r = .notPermitted ∧ ∃ e t, s.journal.entry? n = some e ∧ e.body = .token t ∧ e.slot ≠ k ∧
                holdsItem (s.slot k).perms .crossRead = false))) →
    exec (.reprint h n) s = .next { s with
      port := s.port.ended k
      slots := s.slots.set k ((s.slot k).answered .reprint h .refused (some r) []) }) ∧
  (∀ (j : Journal) (n : Nat), j.inStore n = true ↔ n ≤ j.last ∧ ∃ e ∈ j.entries, e.number ≤ n) ∧
  ∀ (s : State) (k : SlotNo) (h : Header) (n : Nat) (e : Entry) (t : TokenEntry),
    s.Accepted k (.reprint h n) .reprint h → s.Running → 1 ≤ n → n ≤ s.journal.last → s.journal.inStore n = true →
    s.journal.entry? n = some e → e.body = .token t →
    (e.slot = k ∨ holdsItem (s.slot k).perms .crossRead = true) →
    exec (.reprint h n) s = .next { s with
      port := s.port.ended k
      slots := s.slots.set k ((s.slot k).answered .reprint h .done none
        (beBytes 9 t.code.toNat ++ beBytes 1 t.kind.code ++ beBytes 2 t.seq ++ beBytes 4 n ++ beBytes 5 t.meter ++
          beBytes 4 t.vend ++ beBytes 2 t.tenths ++ beBytes 1 t.revision)) }

/-- Outside RUN every request that passes R141, but VEND and GRANT, is refused STARTING or POWER_LOW: nothing changes
but the port, and the slot's held response, notice and request in hand (R155, R166, R169). VEND and GRANT make checks
before the part state (R2, R99); LOG 19 names the order in METER_QUERY, CONTINUE and ABANDON. -/
def Obligations.RequestsRefusedOutsideRun : Prop :=
  ∀ (s : State) (k : SlotNo) (i : Instr) (c : RequestCode) (h : Header) (r : Reason),
    s.Accepted k i c h → c ≠ .vend → c ≠ .grant →
    (s.watch.part = .starting ∧ r = .starting ∨ s.watch.part = .holdup ∧ r = .powerLow) →
    ∃ t, exec i s = .next t ∧ t.port = s.port.ended k ∧ s.SameButSlot t k ∧
      t.slot k = { s.slot k with
        held := some (responseFrame c.byte h.seq .refused (some r) (s.refusalBody k i r))
        notice := none, inHand := (t.slot k).inHand }

/-- A SHIFT_CLOSE, METER_HOLD, ENROL, RETIRE, METER_UPDATE, KEY_LOAD, RECALL, CLOCK_SET, BIND, UNBIND, TARIFF_LOAD or
SETTLE that fails a check of its own leaves its slot IDLE with the REFUSED held; nothing else changes but the port (R37,
R63, R82, R102, R130, R142, R143, R146, R151, R161; a GRANT is FloatRequestsTakeEffect's). The current revision in the
body of a KEY_LOAD refused for a group above 3 is 0xFF, the model's choice (LOG 18). Which check refuses it, and with
which reason, a GRANT included: the first of its table that fails (R37, R63, R65, R66, R69, R70, R82, R99, R102, R120,
R130, R143, R146, R151, R161, R166). The presence bits of a METER_UPDATE are R190's. -/
def Obligations.RefusedAdminRequestsChangeNothing : Prop :=
  (∀ (s : State) (k : SlotNo) (h : Header) (r : Reason),
    (s.Accepted k (.shiftClose h) .shiftClose h → firstFailed (s.partChecks ++ s.journalChecks) = some r →
      exec (.shiftClose h) s = .next { s with
        port := s.port.ended k, slots := s.slots.set k ((s.slot k).refused .shiftClose h r []) }) ∧
    (∀ m st, s.Accepted k (.meterHold h m st) .meterHold h → firstFailed (s.meterHoldChecks m st) = some r →
      exec (.meterHold h m st) s = .next { s with
        port := s.port.ended k, slots := s.slots.set k ((s.slot k).refused .meterHold h r []) }) ∧
    (∀ b, s.Accepted k (.enrol h b) .enrol h → firstFailed (s.enrolChecks b) = some r →
      exec (.enrol h b) s = .next { s with
        port := s.port.ended k, slots := s.slots.set k ((s.slot k).refused .enrol h r []) }) ∧
    (∀ m, s.Accepted k (.retire h m) .retire h → firstFailed (s.retireChecks m) = some r →
      exec (.retire h m) s = .next { s with
        port := s.port.ended k, slots := s.slots.set k ((s.slot k).refused .retire h r []) }) ∧
    (∀ b, s.Accepted k (.meterUpdate h b) .meterUpdate h → firstFailed (s.meterUpdateChecks b) = some r →
      exec (.meterUpdate h b) s = .next { s with
        port := s.port.ended k, slots := s.slots.set k ((s.slot k).refused .meterUpdate h r []) }) ∧
    (∀ b, s.Accepted k (.keyLoad h b) .keyLoad h → firstFailed (s.keyLoadChecks b) = some r →
      exec (.keyLoad h b) s = .next { s with
        port := s.port.ended k
        slots := s.slots.set k ((s.slot k).refused .keyLoad h r (s.revisionByteOf b.group)) }) ∧
    (∀ a, s.Accepted k (.recall h a) .recall h → firstFailed (s.recallChecks a) = some r →
      exec (.recall h a) s = .next { s with
        port := s.port.ended k, slots := s.slots.set k ((s.slot k).refused .recall h r []) }) ∧
    (∀ sec mon, s.Accepted k (.clockSet h sec mon) .clockSet h → firstFailed (s.clockSetChecks sec) = some r →
      exec (.clockSet h sec mon) s = .next { s with
        port := s.port.ended k, slots := s.slots.set k ((s.slot k).refused .clockSet h r s.clock.bytes) }) ∧
    (∀ b, s.Accepted k (.bind h b) .bind h → firstFailed (s.bindChecks k b) = some r →
      exec (.bind h b) s = .next { s with
        port := s.port.ended k, slots := s.slots.set k ((s.slot k).refused .bind h r []) }) ∧
    (∀ t, s.Accepted k (.unbind h t) .unbind h → firstFailed (s.unbindChecks k t) = some r →
      exec (.unbind h t) s = .next { s with
        port := s.port.ended k, slots := s.slots.set k ((s.slot k).refused .unbind h r []) }) ∧
    (∀ b, s.Accepted k (.tariffLoad h b) .tariffLoad h →
      firstFailed (s.partChecks ++ [(b.inRange, .badField)] ++ s.journalChecks) = some r →
      exec (.tariffLoad h b) s = .next { s with
        port := s.port.ended k, slots := s.slots.set k ((s.slot k).refused .tariffLoad h r []) }) ∧
    ∀ n, s.Accepted k (.settle h n) .settle h → firstFailed (s.settleChecks n) = some r →
      exec (.settle h n) s = .next { s with
        port := s.port.ended k, slots := s.slots.set k ((s.slot k).refused .settle h r []) }) ∧
  ∀ (s : State) (k : SlotNo) (r : Reason),
    (firstFailed (s.partChecks ++ s.journalChecks) = some r ↔ FirstFailing (s.partTable ++ s.journalTable) r) ∧
    (∀ m st, firstFailed (s.meterHoldChecks m st) = some r ↔ FirstFailing (s.partTable ++
      [(1 ≤ m ∧ m ≤ 99999999999 ∧ st ≤ 1, .badField), (s.meters.lookup m ≠ none, .unknownMeter),
       (∀ c, s.meters.lookup m = some c → c.lock = none, .meterBusy)] ++ s.journalTable) r) ∧
    (∀ b : EnrolBody, firstFailed (s.enrolChecks b) = some r ↔ FirstFailing (s.partTable ++
      [(s.clock.state = .running, .clockUnset),
       (1 ≤ b.meter ∧ b.meter ≤ 99999999999 ∧ b.state ≤ 1 ∧ b.group ≤ 3 ∧ b.revision ≤ 15 ∧ b.schedule ≤ 7 ∧
         b.lastSeq ≤ 65535 ∧ b.monthTenths ≤ 4294967295 ∧ b.fixed ≤ 100000 ∧ b.freeTaken ≤ 1 ∧
         b.arrears ≤ 10000000 ∧ b.recovery ≤ 50, .badField),
       (∀ c, s.meters.lookup b.meter = some c → c.lock = none, .meterBusy),
       (s.meters.lookup b.meter = none, .badField), (s.meters.cells.length < 16384, .tableFull)] ++ s.journalTable) r) ∧
    (∀ m, firstFailed (s.retireChecks m) = some r ↔ FirstFailing (s.partTable ++
      [(1 ≤ m ∧ m ≤ 99999999999, .badField), (s.meters.lookup m ≠ none, .unknownMeter),
       (∀ c, s.meters.lookup m = some c → c.lock = none, .meterBusy)] ++ s.journalTable) r) ∧
    (∀ b : UpdateBody, firstFailed (s.meterUpdateChecks b) = some r ↔ FirstFailing (s.partTable ++
      [(1 ≤ b.meter ∧ b.meter ≤ 99999999999 ∧ b.presence ≠ 0 ∧ b.presence.toNat < 32 ∧
         (b.has 0 = true → b.schedule ≤ 7) ∧ (b.has 1 = true → b.arrears ≤ 10000000) ∧
         (b.has 2 = true → b.recovery ≤ 50) ∧ (b.has 3 = true → 1 ≤ b.lastSeq ∧ b.lastSeq ≤ 65535) ∧
         (b.has 4 = true → b.group ≤ 3) ∧ ¬ (b.has 3 = true ∧ b.has 4 = true), .badField),
       (s.meters.lookup b.meter ≠ none, .unknownMeter),
       (∀ c, s.meters.lookup b.meter = some c → c.lock = none, .meterBusy),
       (∀ c, s.meters.lookup b.meter = some c → (b.has 3 = true → c.record.lastSeq < b.lastSeq) ∧
         (b.has 4 = true → ∃ cur, s.currentRevision b.group = some cur ∧
           (b.group ≠ c.record.group ∨ c.record.revision ≠ cur)), .badField)] ++ s.journalTable) r) ∧
    (∀ b : KeyBody, firstFailed (s.keyLoadChecks b) = some r ↔ FirstFailing (s.partTable ++
      [(b.group ≤ 3 ∧ b.revision ≤ 15 ∧ ∀ cur, s.currentRevision b.group = some cur → b.revision = (cur + 1) % 16,
         .badField),
       (∀ c ∈ s.meters.cells, c.record.group = b.group → ∀ j, c.lock = some j → (s.slot j).vend = none, .groupBusy)] ++
      s.journalTable) r) ∧
    (∀ (b : GrantBody) (wasOpen : Bool), firstFailed (s.grantChecks wasOpen b) = some r ↔ FirstFailing
      ([(wasOpen = true, .grantShut)] ++ s.partTable ++
      [(b.complement = ~~~b.amount, .grantCheck), (b.amount.toNat ≤ 10000000000 ∧ b.ceiling ≤ 10 ^ 12, .badField),
       (s.float.work.lastGrant < 4294967295 ∧ b.number = s.float.work.lastGrant + 1, .grantOrder),
       (s.float.work.balance + b.amount.toNat * 100 ≤ b.ceiling, .ceiling)] ++ s.journalTable) r) ∧
    (∀ a, firstFailed (s.recallChecks a) = some r ↔ FirstFailing (s.partTable ++
      [(1 ≤ a ∧ a ≤ 10000000000, .badField)] ++ s.journalTable ++
      [(s.float.reservedPoints + a * 100 ≤ s.float.work.balance, .floatShort)]) r) ∧
    (∀ sec, firstFailed (s.clockSetChecks sec) = some r ↔ FirstFailing (s.partTable ++
      [(sec ≠ 0, .badField), (s.clock.state = .unset ∨ s.clock.seconds ≤ sec + 600, .clockStep)] ++ s.journalTable) r) ∧
    (∀ n, firstFailed (s.settleChecks n) = some r ↔ FirstFailing (s.partTable ++
      [(s.journal.mark ≤ n ∧ n ≤ s.journal.last, .badField), (s.journal.mode = .normal, .storeFault)]) r) ∧
    (∀ b : TariffBody, firstFailed (s.partChecks ++ [(b.inRange, .badField)] ++ s.journalChecks) = some r ↔
      FirstFailing (s.partTable ++ [(TariffFieldsInRange b, .badField)] ++ s.journalTable) r) ∧
    (∀ b : BindBody, firstFailed (s.bindChecks k b) = some r ↔ FirstFailing (s.partTable ++
      [(1 ≤ b.target ∧ b.target ≤ 7 ∧ b.tag ≠ 0 ∧
         (b.cls = 1 ∧ b.perms &&& ~~~SlotClass.supervisor.mayHold = 0 ∨
           b.cls = 2 ∧ b.perms &&& ~~~SlotClass.cashier.mayHold = 0) ∧
         (b.lease = 0 ∨ 30 ≤ b.lease ∧ b.lease ≤ 900), .badField),
       ((s.slot k).cls = some .supervisor → b.cls = 2 ∧ b.perms &&& ~~~(s.slot k).perms = 0, .notPermitted),
       ((s.slot (Fin.ofNat 8 b.target)).state = .unbound ∧ (s.slot (Fin.ofNat 8 b.target)).pendingChange = none,
         .wrongState),
       (∀ j : SlotNo, ¬ ((s.slot j).state ≠ .unbound ∧ (s.slot j).tag = b.tag) ∧
         ∀ e ph, (s.slot j).admin = some ⟨some (.bind e), ph⟩ → e.tag ≠ b.tag, .badField)] ++ s.journalTable) r) ∧
    ∀ t : Nat, firstFailed (s.unbindChecks k t) = some r ↔ FirstFailing (s.partTable ++
      [(1 ≤ t ∧ t ≤ 7, .badField),
       ((s.slot k).cls = some .supervisor → Fin.ofNat 8 t = k ∨ (s.slot (Fin.ofNat 8 t)).cls = some .cashier,
         .notPermitted),
       ((s.slot (Fin.ofNat 8 t)).state ≠ .unbound ∧ (s.slot (Fin.ofNat 8 t)).pendingChange = none, .wrongState)] ++
      s.journalTable) r

/-! ### The vend's requests -/

/-- Admission (R2, R3): the twelve steps. It answers a record and a plan exactly when every step passes, and a reason
exactly when that is the first failing step's: BAD_FIELD, STARTING, POWER_LOW, CLOCK_UNSET, UNKNOWN_METER,
METER_BLOCKED, METER_BUSY, BUSY_LOADING, REKEY_LOST, SEQ_EXHAUSTED, pricing's own, FLOAT_FROZEN, FLOAT_SHORT,
STORE_FAULT, JOURNAL_FULL. Pricing gives AMOUNT_LIMIT for a tender above the schedule's maximum or a plan of more than
16 units, TENDER_LOW for no tenth and no charge or no allowance, FREE_TAKEN for a free issue taken in the month (R47,
R48, R50; charges with no tenth are LOG 35, a free issue taken with no allowance LOG 38). -/
def Obligations.AdmissionPassesWhenEveryStepDoes : Prop :=
  (∀ (s : State) (b : VendBody) (r : MeterRecord) (p : Plan),
    s.admission b = .ok (r, p) ↔
      (1 ≤ b.meter ∧ b.meter ≤ 99999999999) ∧
        (b.kind = 0 ∧ 100 ≤ b.tender ∧ b.tender ≤ 500000 ∨ b.kind = 1 ∧ b.tender = 0) ∧
        s.watch.part = .run ∧ s.clock.state = .running ∧
        ∃ (cell : MeterCell) (rekey : Bool), s.meters.lookup b.meter = some cell ∧ cell.record = r ∧
          r.state = .active ∧ cell.lock = none ∧ (s.former.entry r.group).loading = false ∧
          (s.tariff.schedule r.schedule).loading = false ∧
          rekeyNeed (s.former.entry r.group) r.revision = some rekey ∧
          (if rekey then r.lastSeq ≤ 65533
            else r.lastSeq + unitsBound (s.tariff.schedule r.schedule) b.kind b.tender false ≤ 65533) ∧
          makePlan (s.tariff.schedule r.schedule) r b.kind b.tender s.clock.month rekey = .ok p ∧
          s.float.state = .live ∧ s.float.reservedPoints + p.value ≤ s.float.work.balance ∧
          s.journal.mode = .normal ∧ p.units.length + 2 + s.journal.reserved + 32 ≤ s.journal.obtainable) ∧
  (∀ (s : State) (b : VendBody) (reason : Reason) (first : List (Prop × Reason)), first =
      [(1 ≤ b.meter ∧ b.meter ≤ 99999999999 ∧
          (b.kind = 0 ∧ 100 ≤ b.tender ∧ b.tender ≤ 500000 ∨ b.kind = 1 ∧ b.tender = 0), .badField)] ++
        s.partTable ++ [(s.clock.state = .running, .clockUnset), (s.meters.lookup b.meter ≠ none, .unknownMeter)] →
    (FirstFailing first reason → s.admission b = .error reason) ∧
    ∀ (cell : MeterCell) (r : MeterRecord) (second : List (Prop × Reason)), (∀ x ∈ first, x.1) →
      s.meters.lookup b.meter = some cell → cell.record = r →
      second =
        [(r.state = .active, .meterBlocked), (cell.lock = none, .meterBusy),
         ((s.former.entry r.group).loading = false ∧ (s.tariff.schedule r.schedule).loading = false, .busyLoading),
         (rekeyNeed (s.former.entry r.group) r.revision ≠ none, .rekeyLost),
         (if rekeyNeed (s.former.entry r.group) r.revision = some true then r.lastSeq ≤ 65533
          else r.lastSeq + unitsBound (s.tariff.schedule r.schedule) b.kind b.tender false ≤ 65533, .seqExhausted)] →
      (FirstFailing second reason → s.admission b = .error reason) ∧
      ∀ rekey : Bool, (∀ x ∈ second, x.1) → rekeyNeed (s.former.entry r.group) r.revision = some rekey →
        (makePlan (s.tariff.schedule r.schedule) r b.kind b.tender s.clock.month rekey = .error reason →
          s.admission b = .error reason) ∧
        ∀ p, makePlan (s.tariff.schedule r.schedule) r b.kind b.tender s.clock.month rekey = .ok p →
          FirstFailing
            [(s.float.state = .live, .floatFrozen),
             (s.float.reservedPoints + p.value ≤ s.float.work.balance, .floatShort),
             (s.journal.mode = .normal, .storeFault),
             (p.units.length + 2 + s.journal.reserved + 32 ≤ s.journal.obtainable, .journalFull)] reason →
          s.admission b = .error reason) ∧
  ∀ (sch : Schedule) (r : MeterRecord) (month : Nat) (rekey : Bool) (reason : Reason),
    (freePlan sch r month rekey = .error reason ↔
      r.monthStamp = month ∧ r.freeTaken = true ∧ reason = .freeTaken ∨
        ¬ (r.monthStamp = month ∧ r.freeTaken = true) ∧ sch.allowance = 0 ∧ reason = .tenderLow) ∧
    ∀ (tender : Nat) (f : CreditFigures), f = creditFigures sch (r.rolledOver month) tender →
      (creditPlan sch r tender month rekey = .error reason ↔
        sch.maxTender < tender ∧ reason = .amountLimit ∨
          tender ≤ sch.maxTender ∧
            (f.tenths = 0 ∧ f.fixed = 0 ∧ f.arrears = 0 ∧ reason = .tenderLow ∨
              f.tenths ≠ 0 ∧ 16 < ceilDiv f.tenths sch.cap + (if rekey then 2 else 0) ∧ reason = .amountLimit))

/-- A VEND that passes admission holds the lock, a reservation of the energy value and a share of its units plus 2, has
its vend record in OPENING and no last ending, is WORKING, and asks for the engine (R2, R6, R7, R11, R32; LOG 22: the
claims are made together). One that fails admission leaves every claim as it was: the slot is IDLE with REFUSED held,
its reason and the desk receipt number, and its last ending and till totals unchanged (R5). -/
def Obligations.AdmissionDecidesTheClaims : Prop :=
  (∀ (s : State) (k : SlotNo) (h : Header) (b : VendBody) (r : MeterRecord) (p : Plan),
    s.Accepted k (.vend h b) .vend h → s.admission b = .ok (r, p) →
    exec (.vend h b) s = .next (State.proceed { s with
      port := s.port.ended k
      slots := s.slots.set k { (s.slot k).taken .vend h with
        lastEnding := none
        vend := some { receipt := b.receipt, number := none, meter := r.number, group := r.group,
                       schedule := r.schedule, plan := p, phase := .opening, openQueued := false, issued := 0,
                       batch := [], share := p.units.length + 2, pendingEnding := none, ending := none } }
      meters := s.meters.setLock r.number (some k)
      float := { s.float with reservations := s.float.reservations ++ [⟨k, p.value⟩] }
      journal := { s.journal with reserved := s.journal.reserved + (p.units.length + 2) } })) ∧
  ∀ (s : State) (k : SlotNo) (h : Header) (b : VendBody) (r : Reason),
    s.Accepted k (.vend h b) .vend h → s.admission b = .error r →
    exec (.vend h b) s = .next { s with
      port := s.port.ended k, slots := s.slots.set k ((s.slot k).refused .vend h r (beBytes 4 b.receipt)) }

/-- CONTINUE with the vend's number clears the lease, empties the batch and gives the slot work again (R19). ABANDON
with the vend's number, and the lease expiry, end a vend in ISSUING with no unit in progress: the channel is cleared,
the slot is WORKING, the vend is in CLOSING as PARTIAL, and its VEND_END stands in the queue with the units issued and
the undelivered points (R20, R21, R26). With another number CONTINUE and ABANDON are refused BAD_FIELD and the slot
stays HELD with its vend and lease (R19, R20). -/
def Obligations.HeldVendGoesOnOrEnds : Prop :=
  (∀ (s : State) (k : SlotNo) (h : Header) (n : Nat) (v : Vend),
    s.Accepted k (.continueVend h n) .continueVend h → s.Running → (s.slot k).vend = some v →
    (v.number = some n → exec (.continueVend h n) s = .next (State.proceed { s with
      port := s.port.ended k
      slots := s.slots.set k { (s.slot k).taken .continueVend h with vend := some { v with batch := [] } }
      clock := s.clock.setChannel k none })) ∧
    (v.number ≠ some n → exec (.continueVend h n) s = .next { s with
      port := s.port.ended k
      slots := s.slots.set k ((s.slot k).answered .continueVend h .refused (some .badField) []) })) ∧
  (∀ (s : State) (k : SlotNo) (h : Header) (n : Nat) (v : Vend),
    s.Accepted k (.abandon h n) .abandon h → s.Running → s.IssuingAlone k v → v.number = some n →
    exec (.abandon h n) s = .next (State.journalLook { s with
      port := s.port.ended k
      slots := s.slots.set k { (s.slot k).taken .abandon h with vend := some (v.closed .partly (some .abandoned)) }
      clock := s.clock.setChannel k none
      journal := { s.journal with queue := s.journal.queue ++ [v.endEntry k .partly (some .abandoned)] } })) ∧
  (∀ (s : State) (k : SlotNo) (h : Header) (n : Nat) (v : Vend),
    s.Accepted k (.abandon h n) .abandon h → s.Running → (s.slot k).vend = some v → v.number ≠ some n →
    exec (.abandon h n) s = .next { s with
      port := s.port.ended k
      slots := s.slots.set k ((s.slot k).answered .abandon h .refused (some .badField) []) }) ∧
  ∀ (s : State) (k : SlotNo) (d : Nat) (v : Vend),
    k ≠ 0 → s.clock.channels[k] = some d → d ≤ s.clock.seconds → s.IssuingAlone k v →
    exec (.leaseExpiry k) s = .next (State.journalLook { s with
      slots := s.slots.set k { s.slot k with state := .working, vend := some (v.closed .partly (some .leaseExpired)) }
      clock := s.clock.setChannel k none
      journal := { s.journal with queue := s.journal.queue ++ [v.endEntry k .partly (some .leaseExpired)] } })

/-- An overtaking acts by the vend's stage (R26, R27). With a pending ending or in CLOSING it has no effect. In OPENING
with the VEND_OPEN not queued the vend ends REFUSED; queued and withdrawable, its entry is withdrawn and it ends
REFUSED; its program under way or committed, the ending is pending. In ISSUING with no unit in progress it closes
PARTIAL at once, its slot WORKING and its channel cleared; its unit in FORMING is discarded and it closes PARTIAL; in
COMMITTING or APPLYING the ending is pending. A VEND_OPEN is withdrawable unless it is the head under program (R116).
The end REFUSED returns the share, the reservation with no draw and the lock; the response is REFUSED, the vend record
is gone, the last ending has no vend number, till totals are unchanged and the slot is IDLE (R28; its units and
undelivered points are LOG 20). -/
def Obligations.OvertakingActsByStage : Prop :=
  (∀ (s : State) (k : SlotNo) (v : Vend) (r : Reason), (s.slot k).vend = some v →
    (v.pendingEnding ≠ none ∨ v.phase = .closing → s.overtake k r = s) ∧
    (v.pendingEnding = none → v.phase = .opening → v.number = none →
      (v.openQueued = false → s.overtake k r = s.endRefused k v r) ∧
      (v.openQueued = true → s.journal.openWithdrawable k = true →
        s.overtake k r = State.endRefused { s with journal := { s.journal with
          queue := s.journal.queue.filter (fun e => e.place != .slot k) } } k v r)) ∧
    (v.pendingEnding = none →
      (v.phase = .opening ∧ (v.number ≠ none ∨ v.openQueued = true ∧ s.journal.openWithdrawable k = false) ∨
        v.phase = .issuing ∧ ∃ u, s.engine.unit = some u ∧ u.slot = k ∧ u.discarded = false ∧ u.stage ≠ .forming) →
      s.overtake k r = { s with
        slots := s.slots.set k { s.slot k with vend := some { v with pendingEnding := some r } } }) ∧
    (∀ u, v.pendingEnding = none → v.phase = .issuing → s.engine.unit = some u → u.slot = k → u.discarded = false →
      u.stage = .forming →
      s.overtake k r = { s with
        engine := { s.engine with unit := some { u with discarded := true } }
        slots := s.slots.set k { s.slot k with vend := some (v.closed .partly (some r)) }
        journal := { s.journal with queue := s.journal.queue ++ [v.endEntry k .partly (some r)] } }) ∧
    (s.IssuingAlone k v → s.overtake k r = { s with
      slots := s.slots.set k { s.slot k with state := .working, vend := some (v.closed .partly (some r)) }
      clock := s.clock.setChannel k none
      journal := { s.journal with queue := s.journal.queue ++ [v.endEntry k .partly (some r)] } })) ∧
  (∀ (j : Journal) (k : SlotNo),
    (j.failedOnce = true ∨ (∃ a n x, j.op = .program a n x) ∨ (∃ a, j.op = .voidMark a) →
      (j.openWithdrawable k = true ↔ ∃ e ∈ j.queue.drop 1, e.place = .slot k)) ∧
    (j.failedOnce = false → (∀ a n x, j.op ≠ .program a n x) → (∀ a, j.op ≠ .voidMark a) →
      (j.openWithdrawable k = true ↔ ∃ e ∈ j.queue, e.place = .slot k))) ∧
  ∀ (s : State) (k : SlotNo) (v : Vend) (r : Reason) (c q : Byte), (s.slot k).inHand = some (c, q) →
    (s.slot k).pendingChange = none →
    s.endRefused k v r = { s with
      journal := { s.journal with reserved := s.journal.reserved - v.share }
      float := { s.float with reservations := s.float.reservations.filter (fun x => x.slot != k) }
      meters := s.meters.setLock v.meter none
      slots := s.slots.set k { s.slot k with
        state := .idle, inHand := none, vend := none
        lastEnding := some ⟨none, .refused, some r, v.issued, v.undelivered⟩
        held := some (responseFrame c q .refused (some r) (beBytes 4 v.receipt)) } }

/-! ### The admin requests -/

/-- SHIFT_CLOSE queues the slot's till totals; CLOCK_SET with seconds other than 0 and no more than 600 below a running
clock queues the old seconds, the new seconds and the month (R151, R161, R162). BIND of an UNBOUND desk slot with no
pending change, a fresh tag and values in range marks the target and queues its entry, with 120 in place of a lease
length of 0 (R143, R144). -/
def Obligations.SlotAndClockRequestsQueueTheirEntries : Prop :=
  (∀ (s : State) (k : SlotNo) (h : Header), s.Accepted k (.shiftClose h) .shiftClose h → s.Running → s.TakesEntry →
    exec (.shiftClose h) s = .next (s.queuedFor k .shiftClose h (.shiftClose (s.slot k).till)).journalLook) ∧
  (∀ (s : State) (k : SlotNo) (h : Header) (seconds month : Nat), s.Accepted k (.clockSet h seconds month) .clockSet h →
    s.Running → s.TakesEntry → seconds ≠ 0 → (s.clock.state = .unset ∨ s.clock.seconds ≤ seconds + 600) →
    exec (.clockSet h seconds month) s = .next (s.queuedFor k .clockSet h
      (.clockSet (if s.clock.state = .running then s.clock.seconds else 0) seconds month)).journalLook) ∧
  ∀ (s : State) (k t : SlotNo) (h : Header) (b : BindBody) (cls : SlotClass),
    s.Accepted k (.bind h b) .bind h → s.Running → s.TakesEntry → t ≠ 0 → b.target = t.val → b.tag ≠ 0 →
    (b.cls = 1 ∧ cls = .supervisor ∨ b.cls = 2 ∧ cls = .cashier) → b.perms &&& ~~~cls.mayHold = 0 →
    (b.lease = 0 ∨ 30 ≤ b.lease ∧ b.lease ≤ 900) →
    ((s.slot k).cls = some .supervisor → cls = .cashier ∧ b.perms &&& ~~~(s.slot k).perms = 0) →
    (s.slot t).state = .unbound → (s.slot t).pendingChange = none → s.tagTaken b.tag = false →
    exec (.bind h b) s = .next (State.journalLook ((s.queuedFor k .bind h
      (.bind ⟨t, b.tag, cls, b.perms, if b.lease = 0 then 120 else b.lease⟩)).modSlot t
        (fun sl => { sl with pendingChange := some (.bindBy k) })))

/-- UNBIND of a bound desk slot with no pending change marks the target. By the target's state: itself, or IDLE (made
WORKING with request in hand UNBIND and sequence 0), its entry joins the queue at once; a vend is overtaken by its stage
(OvertakingActsByStage), one in ISSUING with no unit in progress being closed PARTIAL UNBOUND, and the UNBIND waits; an
admin request goes on and the UNBIND waits (R29, R146, R147). -/
def Obligations.UnbindMarksItsTarget : Prop :=
  ∀ (s : State) (k t : SlotNo) (h : Header),
    s.Accepted k (.unbind h t.val) .unbind h → s.Running → s.TakesEntry → t ≠ 0 →
    ((s.slot k).cls = some .supervisor → t = k ∨ (s.slot t).cls = some .cashier) →
    (s.slot t).state ≠ .unbound → (s.slot t).pendingChange = none →
    (t = k → exec (.unbind h t.val) s = .next (State.journalLook ((s.queuedFor k .unbind h (.unbind t)).modSlot t
      (fun sl => { sl with pendingChange := some (.unbindBy k) })))) ∧
    (t ≠ k → (s.slot t).vend = none → (s.slot t).admin = none →
      exec (.unbind h t.val) s = .next (State.journalLook ((s.queuedFor k .unbind h (.unbind t)).modSlot t
        (fun sl => { sl with pendingChange := some (.unbindBy k), state := .working, inHand := some (0x0A, 0) })))) ∧
    (t ≠ k → (s.slot t).vend = none → (s.slot t).admin ≠ none →
      exec (.unbind h t.val) s = .next (State.journalLook ({ s with
        port := s.port.ended k
        slots := s.slots.set k { (s.slot k).taken .unbind h with admin := some ⟨some (.unbind t), .waiting⟩ }
        journal := { s.journal with reserved := s.journal.reserved + 1 } }.modSlot t
          (fun sl => { sl with pendingChange := some (.unbindBy k) })))) ∧
    (∀ v, t ≠ k → (s.slot t).vend = some v →
      exec (.unbind h t.val) s = .next (State.journalLook (State.overtake ({ s with
        port := s.port.ended k
        slots := s.slots.set k { (s.slot k).taken .unbind h with admin := some ⟨some (.unbind t), .waiting⟩ }
        journal := { s.journal with reserved := s.journal.reserved + 1 } }.modSlot t
          (fun sl => { sl with pendingChange := some (.unbindBy k) })) t .unbound))) ∧
    ∀ v, t ≠ k → s.IssuingAlone t v →
      exec (.unbind h t.val) s = .next (State.journalLook ({ s with
        port := s.port.ended k
        slots := s.slots.set k { (s.slot k).taken .unbind h with admin := some ⟨some (.unbind t), .waiting⟩ }
        clock := s.clock.setChannel t none
        journal := { s.journal with
          reserved := s.journal.reserved + 1
          queue := s.journal.queue ++ [v.endEntry t .partly (some .unbound)] } }.modSlot t
          (fun sl => { sl with pendingChange := some (.unbindBy k), state := .working,
                               vend := some (v.closed .partly (some .unbound)) })))

/-- METER_HOLD, RETIRE and METER_UPDATE of a meter in the table whose lock is free take the lock and queue their entry;
a METER_UPDATE entry carries the values of R71 (R57, R63, R65, R69, R70, R71). -/
def Obligations.MeterRequestsTakeTheLock : Prop :=
  ∀ (s : State) (k : SlotNo) (h : Header) (m : Nat) (cell : MeterCell), s.Running → s.TakesEntry →
    1 ≤ m → m ≤ 99999999999 → s.meters.lookup m = some cell → cell.lock = none →
    (∀ code st, MeterState.ofCode code = some st → s.Accepted k (.meterHold h m code) .meterHold h →
      exec (.meterHold h m code) s = .next (State.journalLook
        { s.queuedFor k .meterHold h (.meterHold m st) with meters := s.meters.setLock m (some k) })) ∧
    (s.Accepted k (.retire h m) .retire h →
      exec (.retire h m) s = .next (State.journalLook
        { s.queuedFor k .retire h (.retire m) with meters := s.meters.setLock m (some k) })) ∧
    ∀ b : UpdateBody, b.meter = m → b.inRange = true →
      (b.has 3 = true → cell.record.lastSeq < b.lastSeq) →
      (b.has 4 = true → ∃ cur, s.currentRevision b.group = some cur ∧
        (b.group ≠ cell.record.group ∨ cell.record.revision ≠ cur)) →
      s.Accepted k (.meterUpdate h b) .meterUpdate h →
      exec (.meterUpdate h b) s = .next (State.journalLook
        { s.queuedFor k .meterUpdate h (.meterUpdate m
            { schedule := if b.has 0 then some b.schedule else none
              arrears := if b.has 1 then some b.arrears else none
              recovery := if b.has 2 then some b.recovery else none
              lastSeq := if b.has 3 then some b.lastSeq else none
              move := if b.has 4 then
                some ⟨b.group, (s.currentRevision b.group).getD 0,
                  s.journal.sequenceFloor m ((s.currentRevision b.group).getD 0)⟩ else none }) with
          meters := s.meters.setLock m (some k) })

/-- ENROL of a meter not in the table, with the clock RUNNING, fields in range and room, queues the record: its last
sequence is the greater of the given one and the floor, its month stamp the clock's month. The floor is the highest
sequence of the meter's TOKEN entries under the revision in the store, and 0 when there is none (R66, R67, R68). -/
def Obligations.EnrolQueuesTheRecord : Prop :=
  (∀ (s : State) (k : SlotNo) (h : Header) (b : EnrolBody) (st : MeterState), s.Accepted k (.enrol h b) .enrol h →
    s.Running → s.TakesEntry → s.clock.state = .running → b.inRange = true → MeterState.ofCode b.state = some st →
    s.meters.lookup b.meter = none → s.meters.cells.length < 16384 →
    exec (.enrol h b) s = .next (s.queuedFor k .enrol h (.enrol
      { number := b.meter, state := st, group := b.group, revision := b.revision, schedule := b.schedule
        lastSeq := max b.lastSeq (s.journal.sequenceFloor b.meter b.revision), monthStamp := s.clock.month
        monthTenths := b.monthTenths, fixed := b.fixed, freeTaken := b.freeTaken == 1, arrears := b.arrears
        recovery := b.recovery, applied := 0 })).journalLook) ∧
  ∀ (j : Journal) (meter revision : Nat),
    (∀ (e : Entry) (t : TokenEntry), e ∈ j.entries → e.body = .token t → t.meter = meter → t.revision = revision →
      t.seq ≤ j.sequenceFloor meter revision) ∧
    (j.sequenceFloor meter revision = 0 ∨ ∃ (e : Entry) (t : TokenEntry), e ∈ j.entries ∧ e.body = .token t ∧
      t.meter = meter ∧ t.revision = revision ∧ t.seq = j.sequenceFloor meter revision)

/-- TARIFF_LOAD in range sets the schedule's LOADING flag and queues its entry (R37, R38). KEY_LOAD of the revision
after the group's current one, with no vend of the group in flight, reserves an entry slot, sets LOADING and begins the
stage write; its entry is not queued yet (R82, R83). -/
def Obligations.LoadsSetLoading : Prop :=
  (∀ (s : State) (k : SlotNo) (h : Header) (b : TariffBody), s.Accepted k (.tariffLoad h b) .tariffLoad h →
    s.Running → s.TakesEntry → b.inRange = true →
    exec (.tariffLoad h b) s = .next (State.journalLook
      ((s.queuedFor k .tariffLoad h (.tariffLoad b)).modSchedule b.schedule (fun x => { x with loading := true })))) ∧
  ∀ (s : State) (k : SlotNo) (h : Header) (b : KeyBody), s.Accepted k (.keyLoad h b) .keyLoad h →
    s.Running → s.TakesEntry → b.group ≤ 3 → b.revision ≤ 15 →
    (∀ cur, s.currentRevision b.group = some cur → b.revision = (cur + 1) % 16) → s.groupBusy b.group = false →
    exec (.keyLoad h b) s = .next { s with
      port := s.port.ended k
      slots := s.slots.set k
        { (s.slot k).taken .keyLoad h with admin := some ⟨some (.keyLoad b.group b.revision), .staging false⟩ }
      journal := { s.journal with reserved := s.journal.reserved + 1 }
      former := { s.former with
        keys := s.former.keys.set (Fin.ofNat 4 b.group) { s.former.entry b.group with loading := true }
        keyWrite := some (.stage (Fin.ofNat 4 b.group) ⟨b.revision, b.material⟩) } }

/-- GRANT_OPEN with the office code and its complement opens the grant window, any other shuts it (R98). A GRANT shuts
the window; with the window OPEN and its checks passed it queues its entry, otherwise it is refused with the last grant
number (R99). RECALL reserves its points and queues its entry (R102). -/
def Obligations.FloatRequestsTakeEffect : Prop :=
  (∀ (s : State) (k : SlotNo) (h : Header) (c d : BitVec 32), s.Accepted k (.grantOpen h c d) .grantOpen h →
    s.Running →
    exec (.grantOpen h c d) s = .next (
      if c = s.float.officeCode ∧ d = ~~~c then { s with
        port := s.port.ended k, slots := s.slots.set k ((s.slot k).answered .grantOpen h .done none [])
        float := { s.float with windowOpen := true } }
      else { s with
        port := s.port.ended k
        slots := s.slots.set k ((s.slot k).answered .grantOpen h .refused (some .grantCheck) [])
        float := { s.float with windowOpen := false } })) ∧
  (∀ (s : State) (k : SlotNo) (h : Header) (b : GrantBody), s.Accepted k (.grant h b) .grant h →
    s.Running → s.TakesEntry → s.float.windowOpen = true → b.complement = ~~~b.amount →
    b.amount.toNat ≤ 10000000000 → b.ceiling ≤ 10 ^ 12 → s.float.work.lastGrant < 4294967295 →
    b.number = s.float.work.lastGrant + 1 → s.float.work.balance + b.amount.toNat * 100 ≤ b.ceiling →
    exec (.grant h b) s = .next (State.journalLook
      { s.queuedFor k .grant h (.grant b.number b.amount.toNat b.ceiling b.expiry) with
        float := { s.float with windowOpen := false } })) ∧
  (∀ (s : State) (k : SlotNo) (h : Header) (b : GrantBody) (r : Reason), s.Accepted k (.grant h b) .grant h →
    firstFailed (s.grantChecks s.float.windowOpen b) = some r →
    exec (.grant h b) s = .next { s with
      port := s.port.ended k
      slots := s.slots.set k ((s.slot k).refused .grant h r (beBytes 4 s.float.work.lastGrant))
      float := { s.float with windowOpen := false } }) ∧
  ∀ (s : State) (k : SlotNo) (h : Header) (a : Nat), s.Accepted k (.recall h a) .recall h →
    s.Running → s.TakesEntry → 1 ≤ a → a ≤ 10000000000 →
    s.float.reservedPoints + a * 100 ≤ s.float.work.balance →
    exec (.recall h a) s = .next (State.journalLook
      { s.queuedFor k .recall h (.recall a) with
        float := { s.float with reservations := s.float.reservations ++ [⟨k, a * 100⟩] } })

/-- A SETTLE from the settle mark to the last committed number begins its header write: to the number itself, or, when
an open vend stands at or below it, to one less than the lowest such vend number (R130, R131). The completion of a
SETTLE's header write sets the settle mark, and slot 0 has its DONE and is IDLE (R129, R131; the layout of the body is
LOG 17). -/
def Obligations.SettleWritesTheMark : Prop :=
  (∀ (s : State) (k : SlotNo) (h : Header) (n : Nat), s.Accepted k (.settle h n) .settle h → s.Running →
    s.journal.mode = .normal → s.journal.mark ≤ n → n ≤ s.journal.last →
    ((∀ v ∈ s.openVends, n < v) →
      exec (.settle h n) s = .next { s with
        port := s.port.ended k
        slots := s.slots.set k { (s.slot k).taken .settle h with admin := some ⟨none, .header⟩ }
        journal := { s.journal with header := some ⟨n, n, none⟩ } }) ∧
    ∀ v ∈ s.openVends, v ≤ n → (∀ w ∈ s.openVends, w ≤ n → v ≤ w) →
      exec (.settle h n) s = .next { s with
        port := s.port.ended k
        slots := s.slots.set k { (s.slot k).taken .settle h with admin := some ⟨none, .header⟩ }
        journal := { s.journal with header := some ⟨n, v - 1, some v⟩ } }) ∧
  ∀ (s : State) (w : HeaderWrite) (c q : Byte), s.journal.header = some w →
    (s.slot 0).inHand = some (c, q) → (s.slot 0).pendingChange = none →
    exec .settleHeaderWriteCompletion s = .next (State.journalLook { s with
      journal := { s.journal with mark := w.target, header := none }
      slots := s.slots.set 0 ((s.slot 0).done c q ({ s.journal with mark := w.target }.settleBody w)) })

/-! ### The journal -/

/-- The entry slot at hand for the head of the queue is blank; it is the lowest blank one of the FILLING page or, when
no page is FILLING, entry slot 0 of the next ERASED page in circular order after the tail; there is none exactly when no
page is FILLING or ERASED (R110, R117). The oldest SETTLED page is the first one in that order (R110, R122). Putting a
content in one entry slot, and blanking one page, leave every other entry slot as it was; an entry slot is classed by
its check (R113). -/
def Obligations.EntrySlotAtHandIsBlank : Prop :=
  (∀ (j : Journal) (a : Nat), j.slotAtHand = some a →
    j.content a = none ∧
      (j.pageState (a / 32) = .filling ∧ (∀ b, b < a → b / 32 = a / 32 → j.content b ≠ none) ∨
        a % 32 = 0 ∧ (∀ p < 128, j.pageState p ≠ .filling) ∧ j.FirstInOrder .erased (a / 32))) ∧
  (∀ j : Journal, j.slotAtHand = none ↔ ∀ p < 128, j.pageState p ≠ .filling ∧ j.pageState p ≠ .erased) ∧
  (∀ (j : Journal) (p : Nat), j.oldestSettled = some p ↔ j.FirstInOrder .settled p) ∧
  (∀ j : Journal, j.oldestSettled = none ↔ ∀ p < 128, j.pageState p ≠ .settled) ∧
  (∀ (j : Journal) (a b : Nat) (c : SlotContent), (j.put a c).content b = if b = a then some c.judged else j.content b) ∧
  ∀ (j : Journal) (p b : Nat), (j.blankPage p).content b = if b / 32 = p then none else j.content b

/-- With the store idle in NORMAL mode and the scan not paused, the Journal begins: a program for the head, which takes
the next journal number and the clock's seconds; with no entry slot at hand a forced erase of the oldest SETTLED page,
once no apply hold is set; with the numbers used up FAILED mode; with no entry slot at hand and no SETTLED page it
waits, but in STARTING enters FAILED mode at once, an apply hold or not (R179; the hold is LOG 23, the model's reading);
with an empty queue in RUN a trigger erase while fewer than 4 pages are ERASED (R110, R111, R113, R117, R122, R123,
R157). -/
def Obligations.JournalBeginsItsNextOperation : Prop :=
  ∀ s : State, s.journal.mode = .normal → s.journal.op = .idle → s.paused = false →
    (∀ a, s.journal.queue ≠ [] → s.journal.slotAtHand = some a → s.journal.last ≠ 4294967295 →
      s.journalLook = { s with journal := { s.journal with
        op := .program a (s.journal.last + 1) (if s.clock.state = .running then s.clock.seconds else 0)
        tail := some (a / 32) } }) ∧
    (∀ a, s.journal.queue ≠ [] → s.journal.slotAtHand = some a → s.journal.last = 4294967295 →
      s.journalLook = s.enterFailed) ∧
    (∀ p, s.journal.queue ≠ [] → s.journal.slotAtHand = none → s.journal.oldestSettled = some p →
      s.journalLook = if s.applyHold then s else { s with journal := { s.journal with op := .erase p } }) ∧
    (s.journal.queue ≠ [] → s.journal.slotAtHand = none → s.journal.oldestSettled = none →
      s.journalLook = if s.watch.part = .starting then s.enterFailed else s) ∧
    (∀ p, s.journal.queue = [] → s.watch.part = .run → s.applyHold = false → s.journal.erasedPages < 4 →
      s.journal.oldestSettled = some p →
      s.journalLook = { s with journal := { s.journal with op := .erase p } }) ∧
    (s.journal.queue = [] → (s.watch.part ≠ .run ∨ s.applyHold = true ∨ 4 ≤ s.journal.erasedPages ∨
      s.journal.oldestSettled = none) → s.journalLook = s)

/-- The entry into FAILED mode: the queue is dropped, the reserved count is 0, the store is idle and its entry slots,
worn pages, mark and last number are kept, and the balance is not drawn; a vend whose unit is in APPLYING goes on. Every
other vend ends: its reservation is gone, its lock is free, its slot IDLE with no vend; with no vend number as REFUSED
STORE_FAULT, otherwise PARTIAL STORE_FAULT, its channel cleared, its till totals raised, its response ENDED with the
batch (R28, R31, R126; the REFUSED one's last ending is LOG 20). An admin request whose entry was queued, and a KEY_LOAD
in its stage write (at once: LOG 21, the model's reading), is refused STORE_FAULT, its slot IDLE, and gives its claims
back: the LOADING flag of a KEY_LOAD or TARIFF_LOAD, the lock of a METER_HOLD, RETIRE or METER_UPDATE, the reservation
of a RECALL, the mark of a BIND or UNBIND on its target, which is IDLE with no work of its own (R40, R63, R85, R103,
R145, R149). When the work of a slot that an UNBIND waits for ends in FAILED mode, the UNBIND is refused STORE_FAULT and
both slots are IDLE (R29, R149). -/
def Obligations.FailedModeEndsEveryPromise : Prop :=
  (∀ s : State, s.enterFailed.journal =
      { s.journal with mode := .failed, queue := [], reserved := 0, op := .idle, failedOnce := false } ∧
    s.enterFailed.float.work = s.float.work ∧ s.enterFailed.float.nv = s.float.nv ∧ s.enterFailed.port = s.port ∧
    ∀ (k : SlotNo) (v : Vend), s.engine.applying k = true → (s.slot k).vend = some v →
      (s.enterFailed.slot k).vend = some v) ∧
  (∀ (s : State) (k : SlotNo) (v : Vend) (c q : Byte), k ≠ 0 → (s.slot k).vend = some v → s.engine.applying k = false →
    (s.slot k).inHand = some (c, q) → (s.slot k).pendingChange = none →
    (∀ m : SlotNo, (s.slot m).pendingChange ≠ some (.unbindBy k)) →
    (∀ x ∈ s.enterFailed.float.reservations, x.slot ≠ k) ∧
    (∀ x ∈ s.enterFailed.meters.cells, x.record.number = v.meter → x.lock = none) ∧
    (v.number = none → s.enterFailed.slot k = { s.slot k with
      state := .idle, inHand := none, vend := none
      lastEnding := some ⟨none, .refused, some .storeFault, v.issued, v.undelivered⟩
      held := some (responseFrame c q .refused (some .storeFault) (beBytes 4 v.receipt)) }) ∧
    ∀ n, v.number = some n → s.enterFailed.clock.channels[k] = none ∧ s.enterFailed.slot k = { s.slot k with
      state := .idle, inHand := none, vend := none
      till := (s.slot k).till.add v.plan.tender v.plan.change v.undelivered
      lastEnding := some ⟨some n, .partly, some .storeFault, v.issued, v.undelivered⟩
      held := some (responseFrame c q .ended (some .storeFault) v.endedBytes) }) ∧
  (∀ (s : State) (k : SlotNo) (b : EntryBody) (ph : AdminPhase) (c q : Byte), (s.slot k).vend = none →
    (s.slot k).admin = some ⟨some b, ph⟩ → (ph = .queued ∨ ∃ w, ph = .staging w) →
    (s.slot k).inHand = some (c, q) → (s.slot k).pendingChange = none ∨ b = .unbind k →
    (∀ m : SlotNo, (s.slot m).pendingChange = some (.unbindBy k) → b = .unbind m) →
    s.enterFailed.slot k = { s.slot k with
      state := .idle, inHand := none, admin := none, pendingChange := none
      held := some (responseFrame c q .refused (some .storeFault) (s.lateBody ⟨some b, ph⟩)) } ∧
    (∀ g rev, b = .keyLoad g rev → s.lateBody ⟨some b, ph⟩ = s.revisionByteOf g ∧
      (s.enterFailed.former.entry g).loading = false) ∧
    (∀ m, b = .retire m ∨ (∃ v, b = .meterUpdate m v) ∨ (∃ st, b = .meterHold m st) →
      ∀ x ∈ s.enterFailed.meters.cells, x.record.number = m → x.lock = none) ∧
    (∀ t, b = .tariffLoad t → (s.enterFailed.tariff.schedule t.schedule).loading = false) ∧
    (∀ a, b = .recall a → ∀ x ∈ s.enterFailed.float.reservations, x.slot ≠ 0) ∧
    (∀ e, b = .bind e → (s.enterFailed.slot e.target).pendingChange = none) ∧
    ∀ t, b = .unbind t → (s.enterFailed.slot t).pendingChange = none ∧
      ((s.slot t).vend = none → (t = k ∨ (s.slot t).admin = none) → (s.enterFailed.slot t).state = .idle)) ∧
  ∀ (s : State) (k j : SlotNo) (c q : Byte), j ≠ k → s.journal.mode = .failed →
    (s.slot k).pendingChange = some (.unbindBy j) → (s.slot j).pendingChange = none →
    (s.slot j).inHand = some (c, q) →
    s.endWork k = { s with
      slots := (s.slots.set k { s.slot k with state := .idle, inHand := none, pendingChange := none }).set j
        { s.slot j with
          state := .idle, inHand := none, admin := none
          held := some (responseFrame c q .refused (some .storeFault) []) }
      journal := { s.journal with reserved := s.journal.reserved - 1 } }

/-- A program that verifies commits the head: its entry slot holds number, slot, time, body and check, the number is the
last committed one, the entry leaves the queue and its reservation returns, and its owners take it (R111, R113, R118).
The check is that of R188 over bytes 0 to 61, and an entry slot is written or half-written as its check agrees or not
(R113; the packing of the body into bytes 10 to 61 is LOG 24, the model's choice). -/
def Obligations.ProgramCommitsItsEntry : Prop :=
  (∀ (s : State) (a n time : Nat) (e : QEntry) (rest : List QEntry),
    s.journal.op = .program a n time → s.journal.queue = e :: rest →
    exec (.programCompletion true) s = .next (State.proceed (State.returnToRun (State.commitBody { s with
      journal := { s.journal with
        store := putCell s.journal.store a (.written (Entry.sealed n e.slot time e.body)), last := n, op := .idle
        failedOnce := false, queue := rest
        reserved := if e.reserved = true then s.journal.reserved - 1 else s.journal.reserved } } e n)))) ∧
  (∀ (n : Nat) (k : SlotNo) (time : Nat) (b : EntryBody) (bytes : List Byte),
    bytes = beBytes 4 n ++ beBytes 1 b.code ++ beBytes 1 k.val ++ beBytes 4 time ++ b.packed →
    bytes.length = 62 ∧ Entry.sealed n k time b = ⟨n, k, time, b, check16 bytes⟩) ∧
  ∀ e : Entry, (SlotContent.written e).judged =
    if e.check = check16 (entryBytes e.number e.slot e.time e.body) then .written e else .halfWritten

/-- A program that does not verify begins its void mark; until that completes its entry slot is half-written (R125, LOG
12). At that moment R121 is applied: with the reserved count above the obtainable entry slots the Journal enters FAILED
mode, and the void mark is programmed all the same (R121, R125, R126; the void mark in FAILED mode is LOG 11, the
model's reading). When a void mark is complete its entry slot is void. In the scan's first step the next half-written
slot has its turn (R173). Otherwise a first failure is retried and a second one puts the Journal in FAILED mode; in
FAILED mode nothing more begins (R125 to R127). -/
def Obligations.FailedProgramIsVoided : Prop :=
  (∀ (s : State) (a n time : Nat) (j : Journal), s.journal.op = .program a n time →
    j = { s.journal.put a .halfWritten with op := .idle } →
    (j.reserved ≤ j.obtainable →
      exec (.programCompletion false) s = .next { s with journal := { j with op := .voidMark a } }) ∧
    ∀ t, j.obtainable < j.reserved → t = State.enterFailed { s with journal := j } →
      exec (.programCompletion false) s = .next { t with journal := { t.journal with op := .voidMark a } }) ∧
  ∀ (s : State) (a : Nat) (j : Journal), s.journal.op = .voidMark a → j = { s.journal.put a .void with op := .idle } →
    (∀ rest, s.watch.scan.stage = .voiding (a :: rest) →
      exec .voidMarkCompletion s = .next (State.proceed { s with
        journal := j, watch := { s.watch with scan := { s.watch.scan with stage := .voiding rest } } })) ∧
    ((∀ rest, s.watch.scan.stage ≠ .voiding rest) →
      (s.journal.mode = .failed → exec .voidMarkCompletion s = .next { s with journal := j }) ∧
      (s.journal.mode = .normal → s.journal.failedOnce = true →
        exec .voidMarkCompletion s = .next (State.enterFailed { s with journal := j })) ∧
      (s.journal.mode = .normal → s.journal.failedOnce = false →
        exec .voidMarkCompletion s = .next (State.journalLook { s with journal := { j with failedOnce := true } })))

/-- An erase that verifies blanks its page and no other; one that does not verify begins the page's worn-mark write and
leaves other pages as they were (what it leaves of its own page is free, LOG 9); a worn-mark write makes the page WORN,
and R121 is applied. In the scan's second step the next part-erased page has its turn (R124, R174). -/
def Obligations.ErasesBlankOrWearTheirPage : Prop :=
  (∀ (s : State) (p : Nat), s.journal.op = .erase p →
    ((∀ rest, s.watch.scan.stage ≠ .erasing rest) →
      exec (.eraseCompletion true) s = .next (State.proceed { s with
        journal := { s.journal.blankPage p with op := .idle } })) ∧
    (∀ rest, s.watch.scan.stage = .erasing (p :: rest) →
      exec (.eraseCompletion true) s = .next (State.proceed { s with
        journal := { s.journal.blankPage p with op := .idle }
        watch := { s.watch with scan := { s.watch.scan with stage := .erasing rest } } })) ∧
    ∃ j : Journal, exec (.eraseCompletion false) s = .next { s with journal := j, free := s.free + 1 } ∧
      j = { s.journal with store := j.store, op := .wornMark p } ∧
      ∀ a, a / 32 ≠ p → j.content a = s.journal.content a) ∧
  ∀ (s : State) (p : Nat) (j : Journal), s.journal.op = .wornMark p → j = { s.journal.wearPage p with op := .idle } →
    (∀ q, q ∈ j.worn ↔ q < 128 ∧ (q = p ∨ q ∈ s.journal.worn)) ∧
    (j.obtainable < j.reserved →
      exec .wornMarkWriteCompletion s = .next (State.enterFailed { s with journal := j })) ∧
    (j.reserved ≤ j.obtainable → (∀ rest, s.watch.scan.stage ≠ .erasing rest) →
      exec .wornMarkWriteCompletion s = .next (State.proceed { s with journal := j })) ∧
    ∀ rest, j.reserved ≤ j.obtainable → s.watch.scan.stage = .erasing (p :: rest) →
      exec .wornMarkWriteCompletion s = .next (State.proceed { s with
        journal := j, watch := { s.watch with scan := { s.watch.scan with stage := .erasing rest } } })

/-! ### The engine and the token -/

/-- With the engine idle in RUN, the first slot in the order of search that has work is granted: a vend in OPENING has
its VEND_OPEN queued, a vend in ISSUING has its next unit formed with the meter's next sequence; the position becomes
the slot. With none, or with a unit in progress, or out of RUN, nothing is granted. Once it has looked, no grant is
left. The search starts at the slot after the position, up to 7 and on from 1; a slot has work as R10 says. The look
leaves alone everything but the engine, the transform, the slots' vends and the queue, which only grows at its tail
(R10, R11, R12, R14). -/
def Obligations.EngineGrantsInTurn : Prop :=
  (∀ (s : State) (k : SlotNo) (v : Vend), s.Running → s.engine.unit = none →
    (searchOrder s.engine.position).find? s.hasWork = some k → (s.slot k).vend = some v →
    (v.phase = .opening → s.grant? = some { s with
      engine := ⟨k, none⟩
      slots := s.slots.set k { s.slot k with vend := some { v with openQueued := true } }
      journal := { s.journal with queue := s.journal.queue ++ [⟨.slot k, k, true, .vendOpen
        { meter := v.meter, tender := v.plan.tender, fixed := v.plan.fixed, arrears := v.plan.arrears
          change := v.plan.change, retained := v.plan.retained, tenths := v.plan.tenths, value := v.plan.value
          planned := v.plan.units.length, month := v.plan.month }⟩] } }) ∧
    ∀ (u : PlanUnit) (c : MeterCell), v.phase = .issuing → v.plan.units[v.issued]? = some u →
      s.meters.lookup v.meter = some c → s.grant? = some { s with
        engine := ⟨k, some ⟨k, v.issued, c.record.lastSeq + 1, .forming, false⟩⟩
        former := { s.former with transform := some (s.transformFor c.record u) } }) ∧
  (∀ s : State, (¬ s.Running ∨ s.engine.unit ≠ none ∨ ∀ k : SlotNo, s.hasWork k = false) → s.engineLook = s) ∧
  (∀ s : State, (∀ (k : SlotNo) (v : Vend), (s.slot k).vend = some v → s.meters.lookup v.meter ≠ none) →
    s.engineLook.grant? = none) ∧
  (∀ p : SlotNo, (searchOrder p).map (·.val) = [1, 2, 3, 4, 5, 6, 7].rotate p.val) ∧
  (∀ (s : State) (k : SlotNo), s.hasWork k = true ↔ k ≠ 0 ∧ (s.slot k).state = .working ∧ ∃ v,
    (s.slot k).vend = some v ∧ v.pendingEnding = none ∧
      (v.phase = .opening ∧ v.openQueued = false ∨
        v.phase = .issuing ∧ v.issued < v.plan.units.length ∧
          ∀ u, s.engine.unit = some u → u.slot = k → u.discarded = true)) ∧
  ∀ s : State, s.engineLook.watch = s.watch ∧ s.engineLook.port = s.port ∧ s.engineLook.tariff = s.tariff ∧
    s.engineLook.meters = s.meters ∧ s.engineLook.float = s.float ∧ s.engineLook.clock = s.clock ∧
    s.engineLook.free = s.free ∧ s.engineLook.pending = s.pending ∧ s.engineLook.former.keys = s.former.keys ∧
    s.engineLook.former.keyWrite = s.former.keyWrite ∧
    (∃ more, s.engineLook.journal = { s.journal with queue := s.journal.queue ++ more }) ∧
    ∀ k : SlotNo, s.engineLook.slot k = { s.slot k with vend := (s.engineLook.slot k).vend }

/-- The plain token record: class, sequence, payload, day number and new revision in 4, 16, 32, 12 and 4 bits, then a
check that makes its eighteen groups of 4 bits add up to a multiple of 16 (R73, R74). -/
def Obligations.TokenRecordAndItsCheck : Prop :=
  ∀ (kind : UnitKind) (seq payload day rev : Nat), seq < 2 ^ 16 → payload < 2 ^ 32 → day < 2 ^ 12 → rev < 2 ^ 4 →
    (plainRecord kind seq payload day rev).toNat / 2 ^ 68 = kind.code ∧
    (plainRecord kind seq payload day rev).toNat / 2 ^ 52 % 2 ^ 16 = seq ∧
    (plainRecord kind seq payload day rev).toNat / 2 ^ 20 % 2 ^ 32 = payload ∧
    (plainRecord kind seq payload day rev).toNat / 2 ^ 8 % 2 ^ 12 = day ∧
    (plainRecord kind seq payload day rev).toNat / 2 ^ 4 % 2 ^ 4 = rev ∧
    nibbleSum 18 (plainRecord kind seq payload day rev).toNat % 16 = 0 ∧
    (plainRecord kind seq payload day rev).toNat % 16 =
      (16 - nibbleSum 17 ((plainRecord kind seq payload day rev).toNat / 16) % 16) % 16

/-- The transform a unit grant begins: under the meter key of the record's revision, of the plain record with the next
sequence, the day number of the grant, for CREDIT and FREE the tenths and new revision 0, for REKEY_A and REKEY_B the
most and the least significant half of the meter key of the group's current revision and that revision (R14, R75, R79,
R158). The code word is one to one under one key, and reversed under another key never gives the record back (R76);
meter keys of different meters under one material differ (R79). -/
def Obligations.TransformOfAUnit : Prop :=
  (∀ (s : State) (r : MeterRecord) (u : PlanUnit) (cur : KeyGen) (day : Nat) (key : BitVec 64),
    (s.former.entry r.group).current = some cur → day = s.clock.seconds / 86400 % 4096 →
    key = Config.meterKey cur.material r.number →
    (s.transformFor r u).revision = r.revision ∧
    (r.revision = cur.revision → (s.transformFor r u).key = key) ∧
    (∀ p, (s.former.entry r.group).previous = some p → r.revision ≠ cur.revision → r.revision = p.revision →
      (s.transformFor r u).key = Config.meterKey p.material r.number) ∧
    (s.transformFor r u).plain = match u.kind with
      | .credit => plainRecord .credit (r.lastSeq + 1) u.tenths day 0
      | .free => plainRecord .free (r.lastSeq + 1) u.tenths day 0
      | .rekeyA => plainRecord .rekeyA (r.lastSeq + 1) (key.toNat / 2 ^ 32) day cur.revision
      | .rekeyB => plainRecord .rekeyB (r.lastSeq + 1) (key.toNat % 2 ^ 32) day cur.revision) ∧
  (∀ (key : BitVec 64) (r r' : BitVec 72), Config.transform key r = Config.transform key r' → r = r') ∧
  (∀ (key key' : BitVec 64) (r : BitVec 72), key ≠ key' →
    (Config.transform key').symm (Config.transform key r) ≠ r) ∧
  ∀ (material : BitVec 128) (m m' : Nat), m ≤ 99999999999 → m' ≤ 99999999999 → m ≠ m' →
    Config.meterKey material m ≠ Config.meterKey material m'

/-- The completion of a transform: a unit that is not discarded enters COMMITTING and its TOKEN entry, with the code
word and the revision it was formed under, joins the queue in the engine's place; a discarded unit leaves the engine and
its code word is dropped (R14, R15). -/
def Obligations.TransformQueuesTheToken : Prop :=
  ∀ (s : State) (t : Transform) (u : UnitInProgress), s.former.transform = some t → s.engine.unit = some u →
    (∀ (v : Vend) (p : PlanUnit), u.discarded = false → (s.slot u.slot).vend = some v →
      v.plan.units[u.index]? = some p →
      exec .transformCompletion s = .next (State.proceed { s with
        former := { s.former with transform := none }
        engine := { s.engine with unit := some { u with stage := .committing } }
        journal := { s.journal with queue := s.journal.queue ++ [⟨.engine, u.slot, true, .token
          { vend := v.number.getD 0, meter := v.meter, kind := p.kind, seq := u.seq, tenths := p.tenths
            value := p.value, revision := t.revision, code := Config.transform t.key t.plain }⟩] } })) ∧
    (u.discarded = true → exec .transformCompletion s = .next (State.proceed { s with
      former := { s.former with transform := none }, engine := { s.engine with unit := none } }))

/-! ### Commits -/

/-- VEND_OPEN commits: its number is the vend number, the share falls by one, the record write is owed. TOKEN commits:
its unit is in APPLYING, the share falls by one, the record write is owed (R13, R15, R16). ENROL, RETIRE, METER_UPDATE
and METER_HOLD commit: a record write is owed. KEY_LOAD commits: its install write begins. TARIFF_LOAD commits: its
schedule write begins. The request's slot waits for the write (R39, R61, R63, R84). -/
def Obligations.RecordWritingEntriesCommit : Prop :=
  (∀ (s : State) (e : QEntry) (n : Nat) (v : Vend), (s.slot e.slot).vend = some v →
    (∀ o, e.body = .vendOpen o → s.commitBody e n = { s with
      slots := s.slots.set e.slot
        { s.slot e.slot with vend := some { v with number := some n, share := v.share - 1 } }
      meters := { s.meters with writes := s.meters.writes ++ [⟨.opening e.slot, v.meter,
        .opening v.plan.rolled v.plan.month v.plan.fixed v.plan.arrears, n⟩] } }) ∧
    ∀ (t : TokenEntry) (u : UnitInProgress), e.body = .token t → s.engine.unit = some u →
      s.commitBody e n = { s with
        engine := { s.engine with unit := some { u with stage := .applying } }
        slots := s.slots.set e.slot { s.slot e.slot with vend := some { v with share := v.share - 1 } }
        meters := { s.meters with writes := s.meters.writes ++ [⟨.unit ⟨t.code, t.kind, t.seq, n⟩, t.meter,
          .token t.kind t.seq t.tenths ((s.currentRevision v.group).getD 0), n⟩] } }) ∧
  ∀ (s : State) (e : QEntry) (n : Nat),
    (∀ m c, (∃ r, e.body = .enrol r ∧ m = r.number ∧ c = .create r) ∨ (e.body = .retire m ∧ c = .remove) ∨
        (∃ v, e.body = .meterUpdate m v ∧ c = .update v) ∨ (∃ st, e.body = .meterHold m st ∧ c = .state st) →
      s.commitBody e n = { s with
        meters := { s.meters with writes := s.meters.writes ++ [⟨.admin e.slot, m, c, n⟩] }
        slots := s.slots.set e.slot (s.slot e.slot).writes }) ∧
    (∀ g r, e.body = .keyLoad g r → s.commitBody e n = { s with
      former := { s.former with keyWrite := some (.install (Fin.ofNat 4 g) n) }
      slots := s.slots.set 0 (s.slot 0).writes }) ∧
    ∀ b, e.body = .tariffLoad b → s.commitBody e n = { s with
      tariff := { s.tariff with write := some (b, n) }, slots := s.slots.set 0 (s.slot 0).writes }

/-- VEND_END commits: the rest of the share is returned, the reservation leaves the list, the working balance falls by
the energy value less the undelivered points, the lock is free, the till totals rise, the response and the last ending
are set, the vend is gone, and the slot is IDLE (R24, R25, R32, R92, R95, R150). -/
def Obligations.VendEndCommits : Prop :=
  ∀ (s : State) (e : QEntry) (n : Nat) (d : EndEntry) (v : Vend) (c q : Byte), e.body = .vendEnd d →
    s.watch.part ≠ .starting → (s.slot e.slot).vend = some v → (s.slot e.slot).inHand = some (c, q) →
    (s.slot e.slot).pendingChange = none →
    s.commitBody e n = { s with
      journal := { s.journal with reserved := s.journal.reserved - (v.share - 1) }
      float := { s.float with
        reservations := s.float.reservations.filter (fun r => r.slot != e.slot)
        work := { s.float.work with
          balance := s.float.work.balance - (v.plan.value - d.undelivered), applied := n }
        writes := s.float.writes ++ [⟨{ s.float.work with
          balance := s.float.work.balance - (v.plan.value - d.undelivered), applied := n }, .nothing⟩] }
      meters := s.meters.setLock v.meter none
      slots := s.slots.set e.slot { s.slot e.slot with
        state := .idle, inHand := none, vend := none
        till := (s.slot e.slot).till.add v.plan.tender v.plan.change d.undelivered
        lastEnding := some ⟨some d.vend, d.ending, d.reason, d.issued, d.undelivered⟩
        held := some (if d.ending = .complete then responseFrame c q .done none v.bodyBytes
          else responseFrame c q .ended d.reason v.endedBytes) } }

/-- GRANT commits: balance raised by amount × 100, ceiling, expiry, number and applied-through replaced, the state
judged and channel 8 set to match. RECALL commits: slot 0's reservation leaves the list and the balance falls by amount
× 100. Each owes a float write, and slot 0 waits for it (R92, R96, R97, R100, R103). -/
def Obligations.FloatEntriesCommit : Prop :=
  ∀ (s : State) (e : QEntry) (n : Nat),
    (∀ (number amount ceiling expiry : Nat) (r : FloatRecord) (live : Bool),
      e.body = .grant number amount ceiling expiry →
      r = ⟨s.float.work.balance + amount * 100, ceiling, expiry, number, n⟩ →
      (live = true ↔ s.clock.state = .running ∧ s.clock.seconds < expiry) →
      s.commitBody e n = { s with
        float := { s.float with
          work := r, state := if live then .live else .frozen
          writes := s.float.writes ++ [⟨r, .grant number n (if live then .live else .frozen)⟩] }
        clock := s.clock.setChannel 0 (if live then some expiry else none)
        slots := s.slots.set 0 (s.slot 0).writes }) ∧
    ∀ (amount : Nat) (r : FloatRecord), e.body = .recall amount →
      r = { s.float.work with balance := s.float.work.balance - amount * 100, applied := n } →
      s.commitBody e n = { s with
        float := { s.float with
          work := r, reservations := s.float.reservations.filter (fun x => x.slot != 0)
          writes := s.float.writes ++ [⟨r, .recall amount n
            (r.balance - ((s.float.reservations.filter (fun x => x.slot != 0)).map (·.amount)).sum)⟩] }
        slots := s.slots.set 0 (s.slot 0).writes }

/-- BIND commits: its target has the tag, class, permission set and lease length, zero till totals, nothing held, no
notice, no last ending and no pending change, and is IDLE; the DONE carries the totals it had. UNBIND commits: its
target has no tag, class or permissions, lease length 120, is UNBOUND and keeps its held response, last ending and till
totals; a slot that unbinds itself holds its DONE. SHIFT_CLOSE commits: the totals are zero (R144, R148, R151). The work
of a slot with an unbind pending ends: in NORMAL mode the slot stays WORKING for the UNBIND (sequence 0), whose entry
joins the queue in its own slot's place (R29, R147). -/
def Obligations.SlotEntriesCommit : Prop :=
  (∀ (s : State) (e : QEntry) (n : Nat) (c q : Byte), (s.slot e.slot).inHand = some (c, q) →
    (∀ b, e.body = .bind b → b.target ≠ e.slot → (s.slot e.slot).pendingChange = none →
      s.commitBody e n = { s with
        slots := (s.slots.set b.target { s.slot b.target with
          tag := b.tag, cls := some b.cls, perms := b.perms, lease := b.lease, till := ⟨0, 0, 0, 0⟩, held := none
          lastEnding := none, notice := none, pendingChange := none, state := .idle }).set e.slot
            ((s.slot e.slot).done c q (beBytes 1 b.target.val ++ beBytes 4 n ++ (s.slot b.target).till.bytes)) }) ∧
    (∀ t, e.body = .unbind t → t ≠ e.slot → (s.slot e.slot).pendingChange = none →
      s.commitBody e n = { s with
        slots := (s.slots.set t { s.slot t with
          tag := 0, cls := none, perms := 0, lease := 120, pendingChange := none, inHand := none, notice := none
          state := .unbound }).set e.slot
            ((s.slot e.slot).done c q (beBytes 1 t.val ++ beBytes 4 n ++ (s.slot t).till.bytes)) }) ∧
    (e.body = .unbind e.slot → s.commitBody e n = { s with
      slots := s.slots.set e.slot { s.slot e.slot with
        tag := 0, cls := none, perms := 0, lease := 120, pendingChange := none, inHand := none, notice := none
        state := .unbound, admin := none
        held := some (responseFrame c q .done none
          (beBytes 1 e.slot.val ++ beBytes 4 n ++ (s.slot e.slot).till.bytes)) } }) ∧
    (∀ t, e.body = .shiftClose t → (s.slot e.slot).pendingChange = none →
      s.commitBody e n = { s with
        slots := s.slots.set e.slot
          { (s.slot e.slot).done c q (t.bytes ++ beBytes 4 n) with till := ⟨0, 0, 0, 0⟩ } })) ∧
  ∀ (s : State) (k j : SlotNo), j ≠ k → (s.slot k).pendingChange = some (.unbindBy j) → s.journal.mode = .normal →
    s.endWork k = { s with
      slots := (s.slots.set k { s.slot k with state := .working, inHand := some (0x0A, 0) }).set j
        { s.slot j with admin := some ⟨some (.unbind k), .queued⟩ }
      journal := { s.journal with queue := s.journal.queue ++ [⟨.slot j, j, true, .unbind k⟩] } }

/-- CLOCK_SET commits: the clock is RUNNING at the new seconds and month, taken through the entry's number; channels 1
to 7 move by the step, held at the largest second (and at 0, LOG 27); the float is judged and channel 8 set to match;
the settings write begins (R96, R97, R159, R163). A second tick adds one to a RUNNING clock, held at the largest second,
and changes nothing of an UNSET one; the expiry of channel 8 freezes the float and clears the channel, and nothing else;
an expiry not due changes nothing (R96, R156, R159; LOG 1). -/
def Obligations.ClockCommitAndEvents : Prop :=
  (∀ (s : State) (e : QEntry) (n old new month : Nat), e.body = .clockSet old new month →
    ∃ t, s.commitBody e n = t ∧
      t = { s with clock := t.clock, float := { s.float with state := t.float.state }
                   slots := s.slots.set 0 (s.slot 0).writes } ∧
      t.clock.state = .running ∧ t.clock.seconds = new ∧ t.clock.month = month ∧ t.clock.taken = n ∧
      t.clock.settingsMonth = s.clock.settingsMonth ∧ t.clock.settingsApplied = s.clock.settingsApplied ∧
      t.float.state = (if new < s.float.work.expiry then .live else .frozen) ∧ t.ChannelEight ∧
      (∀ k : SlotNo, k ≠ 0 → t.clock.channels[k] = if s.clock.state = .running then
        s.clock.channels[k].map (fun d => min 4294967295 (d + new - s.clock.seconds))
        else s.clock.channels[k].map (fun d => min 4294967295 d)) ∧
      t.clock.settingsWrite = some ⟨month, n,
        if s.clock.state = .running then some ((new : Int) - s.clock.seconds) else none, t.float.state, true⟩) ∧
  (∀ s : State, s.clock.state = .running →
    exec .secondTick s = .next { s with clock := { s.clock with seconds := min 4294967295 (s.clock.seconds + 1) } }) ∧
  (∀ s : State, s.clock.state = .unset → exec .secondTick s = .next s) ∧
  (∀ (s : State) (d : Nat), s.clock.channels[(0 : Fin 8)] = some d → d ≤ s.clock.seconds →
    exec .floatExpiry s = .next { s with
      clock := { s.clock with channels := s.clock.channels.set 0 none }
      float := { s.float with state := .frozen } }) ∧
  ∀ s : State,
    ((∀ d, s.clock.channels[(0 : Fin 8)] = some d → s.clock.seconds < d) → exec .floatExpiry s = .next s) ∧
    ∀ k : SlotNo, k = 0 ∨ (∀ d, s.clock.channels[k] = some d → s.clock.seconds < d) →
      exec (.leaseExpiry k) s = .next s

/-! ### Completions of record writes -/

/-- VEND_OPEN's record write completes: the vend is in ISSUING, or closes COMPLETE at once when its unit list is empty,
or PARTIAL when it has a pending ending (R13, R22, R26). A unit's record write completes: its token joins the batch,
units issued rises by one, the engine is idle. Then the first that applies: no unit is left, the vend closes COMPLETE;
an ending is pending, it closes PARTIAL; the batch holds 4, the slot is HELD with its PART and its lease deadline; else
the vend goes on (R17, R18, R22, R26). In FAILED mode the vend ends PARTIAL STORE_FAULT in volatile state, its claims
are released with no draw, and its slot is IDLE (R31, R126). -/
def Obligations.VendRecordWritesComplete : Prop :=
  (∀ (s : State) (w : MeterWrite) (rest : List MeterWrite) (k : SlotNo) (v : Vend) (m : Meters),
    s.meters.writes = w :: rest → w.owner = .opening k → (s.slot k).vend = some v → v.number = some w.number →
    m = ⟨writeCells s.meters.cells w, rest⟩ →
    (v.pendingEnding = none → v.plan.units ≠ [] →
      exec .openRecordWriteCompletion s = .next (State.proceed { s with
        meters := m, slots := s.slots.set k { s.slot k with vend := some { v with phase := .issuing } } })) ∧
    (v.pendingEnding = none → v.plan.units = [] →
      exec .openRecordWriteCompletion s = .next (State.proceed { s with
        meters := m, slots := s.slots.set k { s.slot k with vend := some (v.closed .complete none) }
        journal := { s.journal with queue := s.journal.queue ++ [v.endEntry k .complete none] } })) ∧
    ∀ r, v.pendingEnding = some r →
      exec .openRecordWriteCompletion s = .next (State.proceed { s with
        meters := m, slots := s.slots.set k { s.slot k with vend := some (v.closed .partly (some r)) }
        journal := { s.journal with queue := s.journal.queue ++ [v.endEntry k .partly (some r)] } })) ∧
  (∀ (s : State) (w : MeterWrite) (rest : List MeterWrite) (tok : Token) (u : UnitInProgress) (v v' : Vend) (t : State),
    s.meters.writes = w :: rest → w.owner = .unit tok → s.engine.unit = some u → (s.slot u.slot).vend = some v →
    v' = { v with batch := v.batch ++ [tok], issued := v.issued + 1 } →
    t = { s with
      meters := ⟨writeCells s.meters.cells w, rest⟩, engine := { s.engine with unit := none }
      slots := s.slots.set u.slot { s.slot u.slot with vend := some v' } } →
    s.journal.mode = .normal →
    (v'.issued = v.plan.units.length →
      exec .unitRecordWriteCompletion s = .next (State.proceed { t with
        slots := s.slots.set u.slot { s.slot u.slot with vend := some (v'.closed .complete none) }
        journal := { s.journal with queue := s.journal.queue ++ [v'.endEntry u.slot .complete none] } })) ∧
    (∀ r, v'.issued ≠ v.plan.units.length → v.pendingEnding = some r →
      exec .unitRecordWriteCompletion s = .next (State.proceed { t with
        slots := s.slots.set u.slot { s.slot u.slot with vend := some (v'.closed .partly (some r)) }
        journal := { s.journal with queue := s.journal.queue ++ [v'.endEntry u.slot .partly (some r)] } })) ∧
    (∀ c q, v'.issued ≠ v.plan.units.length → v.pendingEnding = none → v'.batch.length = 4 →
      (s.slot u.slot).inHand = some (c, q) →
      exec .unitRecordWriteCompletion s = .next (State.proceed { t with
        slots := s.slots.set u.slot { s.slot u.slot with
          vend := some v', state := .held, held := some (responseFrame c q .part none v'.bodyBytes) }
        clock := s.clock.setChannel u.slot
          (some (min 4294967295 (s.clock.seconds + (s.slot u.slot).lease))) })) ∧
    (v'.issued ≠ v.plan.units.length → v.pendingEnding = none → v'.batch.length ≠ 4 →
      exec .unitRecordWriteCompletion s = .next t.proceed)) ∧
  ∀ (s : State) (w : MeterWrite) (rest : List MeterWrite) (tok : Token) (u : UnitInProgress) (v v' : Vend) (c q : Byte),
    s.meters.writes = w :: rest → w.owner = .unit tok → s.engine.unit = some u → (s.slot u.slot).vend = some v →
    v' = { v with batch := v.batch ++ [tok], issued := v.issued + 1 } → s.journal.mode = .failed →
    (s.slot u.slot).inHand = some (c, q) → (s.slot u.slot).pendingChange = none →
    exec .unitRecordWriteCompletion s = .next (State.proceed { s with
      meters := Meters.setLock ⟨writeCells s.meters.cells w, rest⟩ v.meter none
      engine := { s.engine with unit := none }
      journal := { s.journal with reserved := s.journal.reserved - v.share }
      float := { s.float with reservations := s.float.reservations.filter (fun r => r.slot != u.slot) }
      clock := s.clock.setChannel u.slot none
      slots := s.slots.set u.slot { s.slot u.slot with
        state := .idle, inHand := none, vend := none
        till := (s.slot u.slot).till.add v.plan.tender v.plan.change v'.undelivered
        lastEnding := some ⟨v.number, .partly, some .storeFault, v.issued + 1, v'.undelivered⟩
        held := some (responseFrame c q .ended (some .storeFault) v'.endedBytes) } })

/-- The record write of a meter request completes: the lock is free and its slot has its DONE and is IDLE (R58, R63). A
float write completes: the nonvolatile record is the working copy after its commit; a GRANT's or RECALL's DONE is held
(R92, R100, R103). A settings write completes: the settings hold month and number and CLOCK_SET has its DONE, with the
clock as it stands at the response (R161, R163; that moment is LOG 28, the model's reading). A write of the recovery
scan's replay changes its record in the same way and has no request to answer (R62, R105, R165). -/
def Obligations.MeterFloatAndSettingsWritesComplete : Prop :=
  (∀ (s : State) (w : MeterWrite) (rest : List MeterWrite) (k : SlotNo) (c q : Byte),
    s.meters.writes = w :: rest → w.owner = .admin k → (s.slot k).inHand = some (c, q) →
    (s.slot k).pendingChange = none →
    exec .meterWriteCompletion s = .next (State.proceed { s with
      meters := Meters.setLock ⟨writeCells s.meters.cells w, rest⟩ w.meter none
      slots := s.slots.set k ((s.slot k).done c q (meterDoneBody w)) })) ∧
  (∀ (s : State) (w : FloatWrite) (rest : List FloatWrite), s.float.writes = w :: rest →
    (w.done = .nothing → exec .floatWriteCompletion s = .next (State.proceed { s with
      float := { s.float with nv := w.record, writes := rest } })) ∧
    ∀ c q, (s.slot 0).inHand = some (c, q) → (s.slot 0).pendingChange = none →
      (∀ number n st, w.done = .grant number n st →
        exec .floatWriteCompletion s = .next (State.proceed { s with
          float := { s.float with nv := w.record, writes := rest }
          slots := s.slots.set 0 ((s.slot 0).done c q (beBytes 4 number ++ beBytes 4 n ++
            beBytes 5 w.record.balance ++ beBytes 5 w.record.ceiling ++ beBytes 4 w.record.expiry ++
            beBytes 1 st.code)) })) ∧
      ∀ amount n available, w.done = .recall amount n available →
        exec .floatWriteCompletion s = .next (State.proceed { s with
          float := { s.float with nv := w.record, writes := rest }
          slots := s.slots.set 0 ((s.slot 0).done c q (beBytes 5 amount ++ beBytes 4 n ++
            beBytes 5 w.record.balance ++ beBytes 5 available)) })) ∧
  (∀ (s : State) (w : MeterWrite) (rest : List MeterWrite), s.meters.writes = w :: rest → w.owner = .replay →
    exec .meterWriteCompletion s = .next (State.proceed { s with
      meters := ⟨writeCells s.meters.cells w, rest⟩ })) ∧
  (∀ (s : State) (w : SettingsWrite), s.clock.settingsWrite = some w → w.live = false →
    exec .settingsWriteCompletion s = .next (State.proceed { s with
      clock := { s.clock with
        settingsMonth := w.month, settingsApplied := w.number, settingsWrite := none } })) ∧
  ∀ (s : State) (w : SettingsWrite) (c q : Byte), s.clock.settingsWrite = some w → w.live = true →
    (s.slot 0).inHand = some (c, q) → (s.slot 0).pendingChange = none →
    exec .settingsWriteCompletion s = .next (State.proceed { s with
      clock := { s.clock with settingsMonth := w.month, settingsApplied := w.number, settingsWrite := none }
      slots := s.slots.set 0 ((s.slot 0).done c q
        (stepBytes w.step ++ beBytes 4 w.number ++ s.clock.bytes ++ beBytes 1 w.judged.code)) })

/-- The schedule write completes: the schedule holds the new fields with LOADING clear, and TARIFF_LOAD has its DONE
(R39). The stage write completes: the group holds the stage, and the KEY_LOAD's entry joins the queue, or the load is
refused POWER_LOW when a supply warning was taken during the write (R83, R85). The install write completes: the stage is
the current revision and the old current one the previous, and KEY_LOAD has its DONE (R84). A stage clearing of the scan
leaves no stage (R86). The schedule and install writes of its replay change their records in the same way, and no
request of slot 0 waits for them (R36, R86). -/
def Obligations.ScheduleAndKeyWritesComplete : Prop :=
  (∀ (s : State) (b : TariffBody) (n : Nat) (c q : Byte), s.tariff.write = some (b, n) → (s.slot 0).writing = true →
    (s.slot 0).inHand = some (c, q) → (s.slot 0).pendingChange = none →
    exec .scheduleWriteCompletion s = .next (State.proceed { s with
      tariff := ⟨s.tariff.schedules.set (Fin.ofNat 8 b.schedule) (Schedule.ofBody b n false), none⟩
      slots := s.slots.set 0 ((s.slot 0).done c q (beBytes 1 b.schedule ++ beBytes 4 n)) })) ∧
  (∀ (s : State) (g : Fin 4) (gen : KeyGen) (b : EntryBody), s.former.keyWrite = some (.stage g gen) →
    (s.slot 0).admin = some ⟨some b, .staging false⟩ →
    exec .stageWriteCompletion s = .next (State.journalLook { s with
      former := { s.former with keys := s.former.keys.set g { s.former.keys[g] with stage := some gen }, keyWrite := none }
      slots := s.slots.set 0 { s.slot 0 with admin := some ⟨some b, .queued⟩ }
      journal := { s.journal with queue := s.journal.queue ++ [⟨.slot 0, 0, true, b⟩] } })) ∧
  (∀ (s : State) (g : Fin 4) (gen : KeyGen) (c q : Byte), s.former.keyWrite = some (.stage g gen) →
    (s.slot 0).admin = some ⟨some (.keyLoad g.val gen.revision), .staging true⟩ →
    (s.slot 0).inHand = some (c, q) → (s.slot 0).pendingChange = none →
    exec .stageWriteCompletion s = .next (State.journalLook { s with
      former := { s.former with
        keys := s.former.keys.set g { s.former.keys[g] with stage := some gen, loading := false }, keyWrite := none }
      slots := s.slots.set 0 { s.slot 0 with
        state := .idle, inHand := none, admin := none
        held := some (responseFrame c q .refused (some .powerLow) (revisionBytes s.former.keys[g].current)) }
      journal := { s.journal with reserved := s.journal.reserved - 1 } })) ∧
  (∀ (s : State) (g : Fin 4), s.former.keyWrite = some (.clear g) →
    exec .stageWriteCompletion s = .next (State.proceed { s with
      former := { s.former with
        keys := s.former.keys.set g { s.former.keys[g] with stage := none }, keyWrite := none } })) ∧
  (∀ (s : State) (b : TariffBody) (n : Nat), s.tariff.write = some (b, n) → (s.slot 0).writing = false →
    exec .scheduleWriteCompletion s = .next (State.proceed { s with
      tariff := ⟨s.tariff.schedules.set (Fin.ofNat 8 b.schedule) (Schedule.ofBody b n false), none⟩ })) ∧
  (∀ (s : State) (g : Fin 4) (n : Nat) (gen : KeyGen), s.former.keyWrite = some (.install g n) →
    s.former.keys[g].stage = some gen → (s.slot 0).writing = false →
    exec .installWriteCompletion s = .next (State.proceed { s with
      former := { s.former with
        keys := s.former.keys.set g ⟨some gen, s.former.keys[g].current, none, n, false⟩, keyWrite := none } })) ∧
  ∀ (s : State) (g : Fin 4) (n : Nat) (gen : KeyGen) (c q : Byte), s.former.keyWrite = some (.install g n) →
    s.former.keys[g].stage = some gen → (s.slot 0).writing = true →
    (s.slot 0).inHand = some (c, q) → (s.slot 0).pendingChange = none →
    exec .installWriteCompletion s = .next (State.proceed { s with
      former := { s.former with
        keys := s.former.keys.set g ⟨some gen, s.former.keys[g].current, none, n, false⟩, keyWrite := none }
      slots := s.slots.set 0 ((s.slot 0).done c q
        (beBytes 1 g.val ++ beBytes 1 gen.revision ++ beBytes 4 n ++ beBytes 1 gen.revision)) })

/-- What each kind of entry writes to its meter record; a write leaves the lookup of every other meter as it was, a
removal leaves no record, a creation leaves the record with a free lock (R13, R16, R61, R63, R65, R67, R69, R71). -/
def Obligations.RecordChangesByKind : Prop :=
  (∀ (r : MeterRecord) (rolled : Bool) (month fixed arrears n : Nat),
    r.change (.opening rolled month fixed arrears) n = { r with
      monthStamp := if rolled then month else r.monthStamp, monthTenths := if rolled then 0 else r.monthTenths
      freeTaken := if rolled then false else r.freeTaken, fixed := (if rolled then 0 else r.fixed) + fixed
      arrears := r.arrears - arrears, applied := n }) ∧
  (∀ (r : MeterRecord) (seq tenths rev n : Nat),
    r.change (.token .rekeyA seq tenths rev) n = { r with lastSeq := seq, applied := n } ∧
    r.change (.token .rekeyB seq tenths rev) n = { r with revision := rev, lastSeq := 0, applied := n } ∧
    r.change (.token .credit seq tenths rev) n =
      { r with lastSeq := seq, monthTenths := min 4294967295 (r.monthTenths + tenths), applied := n } ∧
    r.change (.token .free seq tenths rev) n = { r with lastSeq := seq, freeTaken := true, applied := n }) ∧
  (∀ (r : MeterRecord) (st : MeterState) (n : Nat), r.change (.state st) n = { r with state := st, applied := n }) ∧
  (∀ (r : MeterRecord) (v : UpdateValues) (n : Nat), r.change (.update v) n = { r with
    schedule := v.schedule.getD r.schedule, arrears := v.arrears.getD r.arrears, recovery := v.recovery.getD r.recovery
    lastSeq := (v.move.map (·.floor)).getD (v.lastSeq.getD r.lastSeq), group := (v.move.map (·.group)).getD r.group
    revision := (v.move.map (·.revision)).getD r.revision, applied := n }) ∧
  ∀ (cells : List MeterCell) (ws : List MeterWrite) (w : MeterWrite), (∀ r, w.change = .create r → r.number = w.meter) →
    (∀ m, m ≠ w.meter → Meters.lookup ⟨writeCells cells w, ws⟩ m = Meters.lookup ⟨cells, ws⟩ m) ∧
    (w.change = .remove → Meters.lookup ⟨writeCells cells w, ws⟩ w.meter = none) ∧
    (∀ r, w.change = .create r →
      Meters.lookup ⟨writeCells cells w, ws⟩ w.meter = some ⟨{ r with applied := w.number }, none⟩) ∧
    ((∀ r, w.change ≠ .create r) → w.change ≠ .remove →
      Meters.lookup ⟨writeCells cells w, ws⟩ w.meter =
        (Meters.lookup ⟨cells, ws⟩ w.meter).map
          (fun c => { c with record := c.record.change w.change w.number }))

/-! ### Supply, resets, the scan -/

/-- A supply warning in RUN puts the part in HOLDUP and overtakes every vend with POWER_LOW by its stage, in the order
of the engine's search (OvertakingActsByStage); a vend in ISSUING with no unit in progress closes PARTIAL, its VEND_END
in the queue and its lease cleared. A KEY_LOAD in its stage write goes on, and the warning is kept until the write
completes, which then refuses it (ScheduleAndKeyWritesComplete; R85; that a warning which clears before is kept too is
LOG 21, the model's reading). An UNBIND that waits for a target already overtaken, or for the target's admin request, is
refused POWER_LOW, its slot IDLE and its target's pending change none (R149); in FAILED mode this is said of a coherent
part (StepKeepsCoherence). Out of RUN only the level is taken. A warning that clears leaves RUN as it is, returns HOLDUP
to RUN when the queue is empty, and STARTING to RUN when the scan has ended (R26, R30, R166, R168, R170, R178, R180). -/
def Obligations.WarningsAndHoldup : Prop :=
  (∀ s : State, s.Running → s.journal.last ≠ 4294967295 → ∃ t, exec .supplyWarning s = .next t ∧
    t.watch = { s.watch with part := .holdup, warning := true } ∧
    t.port = s.port ∧ t.tariff = s.tariff ∧ t.float.work = s.float.work ∧ t.float.nv = s.float.nv ∧
    t.journal.store = s.journal.store ∧ t.journal.last = s.journal.last ∧ t.journal.mark = s.journal.mark ∧
    ∀ (k : SlotNo) (v : Vend), k ≠ 0 → s.IssuingAlone k v →
      (t.slot k).vend = some (v.closed .partly (some .powerLow)) ∧ t.clock.channels[k] = none ∧
        v.endEntry k .partly (some .powerLow) ∈ t.journal.queue) ∧
  (∀ s : State, s.Running → (∀ k t : SlotNo, (s.slot k).admin ≠ some ⟨some (.unbind t), .waiting⟩) →
    (∀ e w, (s.slot 0).admin ≠ some ⟨e, .staging w⟩) →
    exec .supplyWarning s = .next (State.journalLook ((searchOrder s.engine.position).foldl
      (fun u k => u.overtake k .powerLow) { s with watch := { s.watch with part := .holdup, warning := true } }))) ∧
  (∀ (s u : State) (e : Option EntryBody) (w : Bool), s.Running →
    (∀ k t : SlotNo, (s.slot k).admin ≠ some ⟨some (.unbind t), .waiting⟩) →
    (s.slot 0).admin = some ⟨e, .staging w⟩ → (∀ m : SlotNo, (s.slot m).pendingChange ≠ some (.unbindBy 0)) →
    u = (searchOrder s.engine.position).foldl (fun u k => u.overtake k .powerLow)
      { s with watch := { s.watch with part := .holdup, warning := true } } →
    exec .supplyWarning s = .next (State.journalLook { u with
      slots := u.slots.set 0 { u.slot 0 with admin := some ⟨e, .staging true⟩ } })) ∧
  (∀ (s : State) (j t : SlotNo) (c q : Byte), s.Running → s.journal.mode = .normal ∨ s.Coherent →
    s.journal.last ≠ 4294967295 → j ≠ t →
    (s.slot j).vend = none → (s.slot j).admin = some ⟨some (.unbind t), .waiting⟩ → (s.slot j).inHand = some (c, q) →
    (s.slot j).pendingChange = none → (∀ m : SlotNo, (s.slot m).pendingChange = some (.unbindBy j) → m = t) →
    (∀ v, (s.slot t).vend = some v → v.phase = .closing ∨ v.pendingEnding ≠ none) →
    ∃ u, exec .supplyWarning s = .next u ∧ (u.slot j).admin = none ∧ (u.slot j).state = .idle ∧
      (u.slot j).held = some (responseFrame c q .refused (some .powerLow) []) ∧ (u.slot t).pendingChange = none) ∧
  (∀ s : State, ¬ s.Running → exec .supplyWarning s = .next { s with watch := { s.watch with warning := true } }) ∧
  ∀ s : State,
    (s.watch.part = .run → exec .warningClear s = .next { s with watch := { s.watch with warning := false } }) ∧
    (s.watch.part = .holdup → exec .warningClear s = .next (State.proceed { s with
      watch := { s.watch with
        warning := false, part := if s.journal.queue = [] then .run else .holdup } })) ∧
    (s.watch.part = .starting → exec .warningClear s = .next (State.proceed { s with
      watch := { s.watch with
        warning := false, part := if s.watch.scan.stage = .ended then .run else .starting } }))

/-- A warm reset, a loss of supply and a cold start put every volatile state at its reset value and keep what is
nonvolatile: every entry slot, page, record, schedule and supply group but the one under a write, which is made whole or
not made; a warm reset keeps the clock, the others leave it UNSET (R33, R105, R135, R156, R167, R171; the lines are LOG
13, what a loss of supply leaves volatile is LOG 14, what a write cut short leaves is LOG 9). -/
def Obligations.ResetsClearVolatileState : Prop :=
  (∀ (straps : Fin 4) (s : State), s.watch.supply = true → ∃ t, exec (.warmReset straps) s = .next t ∧
    t.VolatileAtReset ∧ s.KeepsRecords t ∧ t.port.straps = straps ∧
    t.watch = ⟨.starting, s.watch.warning, true, true, .warm, ⟨.notBegun, 0, 0⟩⟩ ∧
    t.clock.state = s.clock.state ∧ t.clock.seconds = s.clock.seconds ∧ t.clock.month = s.clock.month ∧
    t.clock.taken = s.clock.taken) ∧
  (∀ s : State, s.watch.supply = true → ∃ t, exec .supplyLoss s = .next t ∧ t.VolatileAtReset ∧ s.KeepsRecords t ∧
    t.watch.supply = false ∧ t.clock.state = .unset ∧ t.clock.seconds = 0) ∧
  ∀ (straps : Fin 4) (s : State), s.watch.supply = false → ∃ t, exec (.coldStart straps) s = .next t ∧
    t.VolatileAtReset ∧ s.KeepsRecords t ∧ t.port.straps = straps ∧ t.watch.supply = true ∧
    t.watch.startKind = .cold ∧ t.clock.state = .unset ∧ t.clock.seconds = 0

/-- The scan begins when supply holds in STARTING before any scan (the line is clear then, LOG 13). With the warning
asserted it pauses at once; else it voids the trail's half-written slots, then erases the part-erased pages. From the
delivered part its START entry, COLD with counts 0 and 0, is programmed at once with number 1 and time 0 (R167, R172,
R173, R174, R178, R180). -/
def Obligations.RecoveryScanBegins : Prop :=
  (∀ s : State, s.watch.supply = true → s.watch.part = .starting → s.watch.scan.stage = .notBegun →
    (s.watch.warning = true → exec .recoveryScanBegin s = .next { s with
      watch := { s.watch with resetLine := false, scan := { s.watch.scan with stage := .readStore } } }) ∧
    (∀ a rest, s.watch.warning = false → s.journal.op = .idle → s.journal.toVoid = a :: rest →
      exec .recoveryScanBegin s = .next { s with
        watch := { s.watch with resetLine := false, scan := { s.watch.scan with stage := .voiding (a :: rest) } }
        journal := { s.journal with op := .voidMark a } }) ∧
    (∀ p rest, s.watch.warning = false → s.journal.op = .idle → s.journal.toVoid = [] →
      s.journal.partErased = p :: rest →
      exec .recoveryScanBegin s = .next { s with
        watch := { s.watch with resetLine := false, scan := { s.watch.scan with stage := .erasing (p :: rest) } }
        journal := { s.journal with op := .erase p } })) ∧
  exec .recoveryScanBegin State.reset = .next { State.reset with
    watch := { State.reset.watch with scan := ⟨.starting, 0, 0⟩ }
    clock := { State.reset.clock with taken := 0 }
    journal := { State.reset.journal with
      tail := some 0, op := .program 0 1 0, queue := [⟨.slot 0, 0, false, .start .cold 0 0⟩] } }

/-- The scan's first two steps on a canonical store. The highest entry is the written one with the highest number. The
trail on its page is every void or half-written entry slot that follows it with no other between; it goes on to the next
page that is not WORN only from the end of a page, and takes a page's leading void and half-written slots only when
every later slot there is blank. The tail is the page of the last trail slot, or the highest entry's. The half-written
slots of the trail are voided (R173). A part-erased page is neither WORN nor the tail, holds no trail slot, and is
neither wholly blank nor wholly written or void (R174). -/
def Obligations.TrailAndPartErasedPages : Prop :=
  ∀ j : Journal, Rising (j.store.map (·.1)) → (∀ c ∈ j.store, c.1 < 4096) →
    (∀ h e, j.highest = some (h, e) → j.content h = some (.written e) ∧
      ∀ b f, j.content b = some (.written f) → f.number ≤ e.number) ∧
    (j.highest = none → (∀ b f, j.content b ≠ some (.written f)) ∧ j.trail = [] ∧ j.scanTail = none) ∧
    (∀ h e, j.highest = some (h, e) →
      (∀ a, a / 32 = h / 32 → (a ∈ j.trail ↔ h < a ∧ ∀ b, h < b → b ≤ a → j.torn b = true)) ∧
      (∀ a ∈ j.trail, a / 32 ≠ h / 32 → (∀ b, b / 32 = h / 32 → h < b → b ∈ j.trail) ∧
        ∀ b, b / 32 = a / 32 → (b ∈ j.trail ∨ j.content b = none) ∧ (b ≤ a → b ∈ j.trail)) ∧
      (∀ q, q < 128 → q ∉ j.worn → q ≠ h / 32 →
        (∀ d, 0 < d → d < (q + 128 - h / 32) % 128 → (h / 32 + d) % 128 ∈ j.worn) →
        (∀ b, b / 32 = h / 32 → h < b → b ∈ j.trail) →
        ∀ a, a / 32 = q → (a ∈ j.trail ↔ (∀ b, b / 32 = q → b ≤ a → j.torn b = true) ∧
          ∀ b c, b / 32 = q → j.content b ≠ none → c / 32 = q → c ≤ b → j.torn c = true)) ∧
      (j.trail = [] → j.scanTail = some (h / 32)) ∧
      ∀ a, j.trail.getLast? = some a → j.scanTail = some (a / 32)) ∧
    (∀ a, j.torn a = true ↔ j.content a = some .void ∨ j.content a = some .halfWritten) ∧
    (∀ a ∈ j.trail, j.torn a = true) ∧
    (∀ a, a ∈ j.toVoid ↔ a ∈ j.trail ∧ j.content a = some .halfWritten) ∧
    ∀ p, p ∈ j.partErased ↔ p < 128 ∧ p ∉ j.worn ∧ j.scanTail ≠ some p ∧ (∀ a ∈ j.trail, a / 32 ≠ p) ∧
      (∃ a, a / 32 = p ∧ j.content a ≠ none) ∧
      ∃ a, a / 32 = p ∧ (j.content a = none ∨ j.content a = some .halfWritten)

/-- The scan from its third step on, for any store. With nothing to void or to erase the scan sets the last committed
number, the tail and at a cold start the clock's taken-through (R175), and offers the entries in the store in journal
order: one that causes a write is counted and the rest wait for it (R176). Then each group's stage is cleared, the
lowest group first (R86; the order is LOG 30, the model's choice), and at a cold start the month index comes from the
settings (R156). Then the first open vend has its INTERRUPTED VEND_END queued, with the TOKEN entries of the vend
counted and their values taken from its energy value (R177), and with none open the START entry is queued with the kind
of start and the two counts (R178). -/
def Obligations.ScanStepsThreeToSix : Prop :=
  (∀ (s u : State) (last : Nat), s.watch.supply = true → s.watch.part = .starting → s.watch.scan.stage = .notBegun →
    s.watch.warning = false → s.journal.toVoid = [] → s.journal.partErased = [] →
    last = (s.journal.highest.map (fun h => h.2.number)).getD 0 →
    u = { s with
      watch := { s.watch with resetLine := false, scan := { s.watch.scan with stage := .readStore } }
      journal := { s.journal with last := last, tail := s.journal.scanTail }
      clock := { s.clock with taken := if s.watch.startKind = .cold then last else s.clock.taken } } →
    exec .recoveryScanBegin s = .next (State.journalLook (u.scanReplay u.journal.entries))) ∧
  (∀ j : Journal, Rising (j.store.map (·.1)) → j.op = .idle →
    (∀ e, e ∈ j.entries ↔ ∃ a, j.content a = some (.written e)) ∧
    ∀ p, j.tail = some p → j.entries =
      entriesOf (j.store.filter (fun c => p < c.1 / 32)) ++ entriesOf (j.store.filter (fun c => c.1 / 32 ≤ p))) ∧
  (∀ s : State, s.scanReplay [] = s.scanClear) ∧
  (∀ (s : State) (e : Entry) (rest : List Entry),
    (s.replay? e = none → s.scanReplay (e :: rest) = s.scanReplay rest) ∧
    ∀ u, s.replay? e = some u → s.scanReplay (e :: rest) = { u with
      watch := { u.watch with scan :=
        { u.watch.scan with stage := .replaying rest, replayed := u.watch.scan.replayed + 1 } } }) ∧
  (∀ s : State,
    (∀ g : Fin 4, s.former.keys[g].stage ≠ none → (∀ g' : Fin 4, g' < g → s.former.keys[g'].stage = none) →
      s.scanClear = { s with
        watch := { s.watch with scan := { s.watch.scan with stage := .clearing } }
        former := { s.former with keyWrite := some (.clear g) } }) ∧
    ((∀ g : Fin 4, s.former.keys[g].stage = none) → s.scanClear = State.scanClose { s with
      clock := { s.clock with
        month := if s.watch.startKind = .cold then s.clock.settingsMonth else s.clock.month } })) ∧
  ∀ s : State,
    (∀ (before after : List Entry) (e : Entry) (o : OpenEntry) (tokens : List TokenEntry),
      s.journal.entries = before ++ e :: after → e.body = .vendOpen o →
      (∀ x ∈ s.journal.entries, ∀ d, x.body = .vendEnd d → d.vend ≠ e.number) →
      (∀ y ∈ before, ∀ p, y.body = .vendOpen p →
        ∃ x ∈ s.journal.entries, ∃ d, x.body = .vendEnd d ∧ d.vend = y.number) →
      tokens = s.journal.entries.filterMap (fun x => match x.body with
        | .token t => if t.vend = e.number then some t else none
        | _ => none) →
      s.scanClose = { s with
        watch := { s.watch with scan := { s.watch.scan with stage := .closing } }
        journal := { s.journal with queue := s.journal.queue ++ [⟨.slot e.slot, e.slot, false,
          .vendEnd ⟨e.number, .interrupted, none, tokens.length, o.value - (tokens.map (·.value)).sum⟩⟩] } }) ∧
    ((∀ y ∈ s.journal.entries, ∀ p, y.body = .vendOpen p →
        ∃ x ∈ s.journal.entries, ∃ d, x.body = .vendEnd d ∧ d.vend = y.number) →
      s.scanClose = { s with
        watch := { s.watch with scan := { s.watch.scan with stage := .starting } }
        journal := { s.journal with queue := s.journal.queue ++ [⟨.slot 0, 0, false,
          .start s.watch.startKind s.watch.scan.replayed s.watch.scan.closed⟩] } })

/-- Replay offers an entry to its record's owner: it causes a write when its number is above the record's
applied-through, and none otherwise; one whose meter is not in the table causes none, but an ENROL creates the record
just then (R62); a KEY_LOAD needs a stage of its revision besides (R86); a CLOCK_SET writes the settings, and at a warm
reset above taken-through the running clock takes it as well (R165; the holds at 0 and at the largest second are LOG
23); BIND, UNBIND, SHIFT_CLOSE and START cause none (R36, R62, R105, R176). In the scan an INTERRUPTED VEND_END's commit
draws the vend's energy value less the undelivered points, its float write under way at once (in a pause too: LOG 33,
the model's choice), and is counted; START's commit ends the scan: the float is judged, channel 8 set to match, and the
part is in RUN if the warning is clear (R97, R106, R177, R178). -/
def Obligations.ReplayAndScanEntries : Prop :=
  ((∀ (s : State) (e : Entry) (m : Nat) (cell : MeterCell) (c : RecordChange), s.meters.lookup m = some cell →
    (∃ o, e.body = .vendOpen o ∧ o.meter = m ∧
        c = .opening (cell.record.monthStamp != o.month) o.month o.fixed o.arrears) ∨
      (∃ t, e.body = .token t ∧ t.meter = m ∧ c = .token t.kind t.seq t.tenths ((t.revision + 1) % 16)) ∨
      (e.body = .retire m ∧ c = .remove) ∨ (∃ v, e.body = .meterUpdate m v ∧ c = .update v) ∨
      (∃ st, e.body = .meterHold m st ∧ c = .state st) →
    s.replay? e = if cell.record.applied < e.number then
      some { s with meters := { s.meters with writes := s.meters.writes ++ [⟨.replay, m, c, e.number⟩] } }
    else none) ∧
  (∀ (s : State) (e : Entry) (r : FloatRecord),
    (∃ g a c x, e.body = .grant g a c x ∧ r = ⟨s.float.work.balance + a * 100, c, x, g, e.number⟩) ∨
      (∃ a, e.body = .recall a ∧
        r = { s.float.work with balance := s.float.work.balance - a * 100, applied := e.number }) ∨
      (∃ d, e.body = .vendEnd d ∧ r = { s.float.work with
        balance := s.float.work.balance - (s.journal.openValue d.vend - d.undelivered), applied := e.number }) →
    s.replay? e = if s.float.work.applied < e.number then
      some { s with float := { s.float with work := r, writes := s.float.writes ++ [⟨r, .nothing⟩] } }
    else none) ∧
  (∀ (s : State) (e : Entry) (b : TariffBody), e.body = .tariffLoad b →
    s.replay? e = if (s.tariff.schedule b.schedule).applied < e.number then
      some { s with tariff := { s.tariff with write := some (b, e.number) } } else none) ∧
  (∀ (s : State) (e : Entry) (m : Nat), s.meters.lookup m = none →
    ((∃ o, e.body = .vendOpen o ∧ o.meter = m) ∨ (∃ t, e.body = .token t ∧ t.meter = m) ∨ e.body = .retire m ∨
      (∃ v, e.body = .meterUpdate m v) ∨ (∃ st, e.body = .meterHold m st)) → s.replay? e = none) ∧
  (∀ (s : State) (e : Entry) (r : MeterRecord), e.body = .enrol r →
    (s.meters.lookup r.number = none → s.replay? e = some { s with
      meters := { s.meters with writes := s.meters.writes ++ [⟨.replay, r.number, .create r, e.number⟩] } }) ∧
    (s.meters.lookup r.number ≠ none → s.replay? e = none)) ∧
  (∀ (s : State) (e : Entry) (g rev : Nat), e.body = .keyLoad g rev →
    ((s.former.entry g).applied < e.number → (∃ gen, (s.former.entry g).stage = some gen ∧ gen.revision = rev) →
      s.replay? e = some { s with
        former := { s.former with keyWrite := some (.install (Fin.ofNat 4 g) e.number) } }) ∧
    (e.number ≤ (s.former.entry g).applied ∨ (∀ gen, (s.former.entry g).stage = some gen → gen.revision ≠ rev) →
      s.replay? e = none)) ∧
  (∀ (s : State) (e : Entry) (old new month : Nat) (w : SettingsWrite), e.body = .clockSet old new month →
    w = ⟨month, e.number, none, .frozen, false⟩ →
    (e.number ≤ s.clock.settingsApplied → s.replay? e = none) ∧
    (s.clock.settingsApplied < e.number → (s.watch.startKind = .cold ∨ e.number ≤ s.clock.taken) →
      s.replay? e = some { s with clock := { s.clock with settingsWrite := some w } }) ∧
    (s.clock.settingsApplied < e.number → s.watch.startKind = .warm → s.clock.taken < e.number →
      s.replay? e = some { s with clock := { s.clock with
        state := .running, month := month, taken := e.number, settingsWrite := some w
        seconds := if s.clock.state = .running then min 4294967295 (s.clock.seconds + new - old) else new } })) ∧
  ∀ (s : State) (e : Entry), ((∃ b, e.body = .bind b) ∨ (∃ t, e.body = .unbind t) ∨ (∃ t, e.body = .shiftClose t) ∨
    ∃ k r c, e.body = .start k r c) → s.replay? e = none) ∧
  (∀ (s : State) (e : QEntry) (n : Nat) (d : EndEntry) (r : FloatRecord), e.body = .vendEnd d →
    s.watch.part = .starting → r = { s.float.work with
      balance := s.float.work.balance - (s.journal.openValue d.vend - d.undelivered), applied := n } →
    s.commitBody e n = { s with
      float := { s.float with work := r, writes := s.float.writes ++ [⟨r, .nothing⟩] }
      watch := { s.watch with scan := { s.watch.scan with closed := s.watch.scan.closed + 1 } } }) ∧
  ∀ (s : State) (e : QEntry) (n : Nat) (kind : StartKind) (a b : Nat) (live : Bool), e.body = .start kind a b →
    (live = true ↔ s.clock.state = .running ∧ s.clock.seconds < s.float.work.expiry) →
    s.commitBody e n = { s with
      float := { s.float with state := if live then .live else .frozen }
      clock := s.clock.setChannel 0 (if live then some s.float.work.expiry else none)
      watch := { s.watch with
        scan := { s.watch.scan with stage := .ended }, part := if s.watch.warning then s.watch.part else .run } }

/-! ### Prices and plans -/

/-- The cost of a run of consecutive positions is the sum of the prices of its tenths; the tenth at a position is priced
by the first block whose threshold is above it, or by the last block when none is (R35). -/
def Obligations.CostIsTheSumOfPrices : Prop :=
  ∀ (sch : Schedule) (pos n : Nat),
    runCost sch.steps sch.lastPrice pos n = ((List.range n).map (fun i => sch.priceAt (pos + i))).sum ∧
    (∀ (before after : List BlockStep) (b : BlockStep), sch.steps = before ++ b :: after →
      (∀ x ∈ before, x.threshold ≤ pos) → pos < b.threshold → sch.priceAt pos = b.price) ∧
    ((∀ x ∈ sch.steps, x.threshold ≤ pos) → sch.priceAt pos = sch.lastPrice)

/-- The block walk buys what the budget pays for and stops with less left than the price of the next tenth (R45). The
plan of a CREDIT vend balances: change, retained remainder and energy value as R46 defines them; the reservation at
admission is the energy value; a vend whose units are all issued has no undelivered points (R46, R95). -/
def Obligations.PlanBalances : Prop :=
  (∀ (sch : Schedule) (pos budget n left : Nat), walk sch.steps sch.lastPrice pos budget = (n, left) →
    (∀ b ∈ sch.steps, 1 ≤ b.price) → 1 ≤ sch.lastPrice →
    sch.cost pos n + left = budget ∧ left < sch.priceAt (pos + n)) ∧
  ∀ (sch : Schedule) (r : MeterRecord) (tender month : Nat) (rekey : Bool) (p : Plan) (pos budget left : Nat),
    creditPlan sch r tender month rekey = .ok p → r.recovery ≤ 50 →
    pos = (if r.monthStamp = month then r.monthTenths else 0) → budget = (tender - p.fixed - p.arrears) * 100 →
    left = budget - sch.cost pos p.tenths →
    sch.cost pos p.tenths ≤ budget ∧ p.tender = tender ∧ p.change = left / 100 ∧
      p.retained = left - 100 * p.change ∧ p.retained ≤ 99 ∧ p.value = budget - 100 * p.change ∧
      p.value = sch.cost pos p.tenths + p.retained ∧
      tender * 100 = (p.fixed + p.arrears + p.change) * 100 + p.value ∧
      (∀ (s : State) (k : SlotNo) (b : VendBody) (c : MeterRecord),
        (s.admitVend k b c p).float.reservations = s.float.reservations ++ [⟨k, p.value⟩]) ∧
      ∀ v : Vend, v.plan = p → v.issued = p.units.length → v.undelivered = 0

/-- The units of a CREDIT plan: after the rekey units, slices of the token cap in order from the meter's position, the
last holding the rest; each slice's value is the cost of its run and the last has the retained remainder besides; tenths
and values add up to the plan's (R49, R51). -/
def Obligations.SlicesPartitionTheEnergy : Prop :=
  ∀ (sch : Schedule) (r : MeterRecord) (tender month : Nat) (rekey : Bool) (p : Plan) (pos : Nat),
    creditPlan sch r tender month rekey = .ok p → 100 ≤ sch.cap →
    pos = (if r.monthStamp = month then r.monthTenths else 0) →
    p.units.take (if rekey then 2 else 0) = (if rekey then [⟨.rekeyA, 0, 0⟩, ⟨.rekeyB, 0, 0⟩] else []) ∧
      p.units.length ≤ 16 ∧ (p.units.map (·.tenths)).sum = p.tenths ∧ (p.units.map (·.value)).sum = p.value ∧
      ∀ (i : Nat) (u : PlanUnit), p.units[(if rekey then 2 else 0) + i]? = some u →
        u.kind = .credit ∧ i * sch.cap < p.tenths ∧ u.tenths = min sch.cap (p.tenths - i * sch.cap) ∧
          u.value = sch.cost (pos + i * sch.cap) u.tenths +
            if p.tenths ≤ (i + 1) * sch.cap then p.retained else 0

/-- A meter's key revision against its group's key table entry: equal to the current one, no rekey units; equal to the
previous one, two; else, or with no current one, REKEY_LOST, which refuses a vend that has passed the steps before
(R81). -/
def Obligations.RekeyNeedByKeyTable : Prop :=
  (∀ (e : KeyEntry) (rev : Nat),
    (e.current = none → rekeyNeed e rev = none) ∧
    ∀ c, e.current = some c →
      (rev = c.revision → rekeyNeed e rev = some false) ∧
      (∀ p, e.previous = some p → rev ≠ c.revision → rev = p.revision → rekeyNeed e rev = some true) ∧
      (rev ≠ c.revision → (∀ p, e.previous = some p → rev ≠ p.revision) → rekeyNeed e rev = none)) ∧
  (∀ b : Bool, (rekeyUnits b).map (·.kind) = if b then [.rekeyA, .rekeyB] else []) ∧
  ∀ (s : State) (b : VendBody) (cell : MeterCell), VendBody.inRange b = true → s.watch.part = .run →
    s.clock.state = .running → s.meters.lookup b.meter = some cell → cell.record.state = .active → cell.lock = none →
    (s.former.entry cell.record.group).loading = false → (s.tariff.schedule cell.record.schedule).loading = false →
    rekeyNeed (s.former.entry cell.record.group) cell.record.revision = none →
    s.admission b = .error .rekeyLost
end

