-- ==== Sys2Proof/Laws/Canonical.lean ====
section
/-! SUPPORT. The operations over the journal's store and the meter table keep their canonical form, and the state after
reset has it. -/

namespace Sys2Proof.Machine

theorem putCell_keys {l : List (Nat × SlotContent)} {a : Nat} {c : SlotContent} {x : Nat × SlotContent}
    (h : x ∈ putCell l a c) : x.1 = a ∨ x ∈ l := by
  induction l with
  | nil => simp only [putCell, List.mem_singleton] at h; exact .inl (by rw [h])
  | cons y ys ih =>
    unfold putCell at h
    split at h
    · rcases List.mem_cons.mp h with h | h
      · exact .inl (by rw [h])
      · exact .inr h
    · split at h
      · rcases List.mem_cons.mp h with h | h
        · exact .inl (by rw [h])
        · exact .inr (List.mem_cons_of_mem _ h)
      · rcases List.mem_cons.mp h with h | h
        · exact .inr (h ▸ List.mem_cons_self)
        · exact (ih h).imp id (List.mem_cons_of_mem _)

/-- Putting a content in an entry slot keeps the store canonical. -/
theorem putCell_rising {l : List (Nat × SlotContent)} (h : Rising (l.map (·.1))) (a : Nat) (c : SlotContent) :
    Rising ((putCell l a c).map (·.1)) := by
  induction l with
  | nil => simp [putCell, Rising]
  | cons y ys ih =>
    simp only [List.map_cons, Rising, List.pairwise_cons, List.mem_map, forall_exists_index, and_imp,
      forall_apply_eq_imp_iff₂] at h
    unfold putCell
    split
    · rename_i hlt
      simp only [List.map_cons, Rising, List.pairwise_cons, List.mem_cons, List.mem_map, forall_eq_or_imp,
        forall_exists_index, and_imp, forall_apply_eq_imp_iff₂]
      exact ⟨⟨hlt, fun z hz => hlt.trans (h.1 z hz)⟩, h.1, h.2⟩
    · split
      · rename_i heq
        simp only [List.map_cons, Rising, List.pairwise_cons, List.mem_map, forall_exists_index, and_imp,
          forall_apply_eq_imp_iff₂]
        exact ⟨fun z hz => heq ▸ h.1 z hz, h.2⟩
      · rename_i hlt hne
        simp only [List.map_cons, Rising, List.pairwise_cons, List.mem_map, forall_exists_index, and_imp,
          forall_apply_eq_imp_iff₂]
        refine ⟨fun z hz => ?_, ih h.2⟩
        rcases putCell_keys hz with hz | hz
        · omega
        · exact h.1 z hz

/-- Blanking a page, or any other choice of entry slots, keeps the store canonical. -/
theorem filter_rising {α : Type} {key : α → Nat} {l : List α} (h : Rising (l.map key)) (p : α → Bool) :
    Rising ((l.filter p).map key) := List.Pairwise.sublist (List.filter_sublist.map key) h

theorem insertCell_keys {l : List MeterCell} {r : MeterRecord} {x : MeterCell} (h : x ∈ insertCell l r) :
    x.record.number = r.number ∨ x ∈ l := by
  induction l with
  | nil => simp only [insertCell, List.mem_singleton] at h; exact .inl (by rw [h])
  | cons y ys ih =>
    unfold insertCell at h
    split at h
    · rcases List.mem_cons.mp h with h | h
      · exact .inl (by rw [h])
      · exact .inr h
    · split at h
      · rcases List.mem_cons.mp h with h | h
        · exact .inl (by rw [h])
        · exact .inr (List.mem_cons_of_mem _ h)
      · rcases List.mem_cons.mp h with h | h
        · exact .inr (h ▸ List.mem_cons_self)
        · exact (ih h).imp id (List.mem_cons_of_mem _)

/-- Creating a record keeps the table canonical. -/
theorem insertCell_rising {l : List MeterCell} (h : Rising (l.map (·.record.number))) (r : MeterRecord) :
    Rising ((insertCell l r).map (·.record.number)) := by
  induction l with
  | nil => simp [insertCell, Rising]
  | cons y ys ih =>
    simp only [List.map_cons, Rising, List.pairwise_cons, List.mem_map, forall_exists_index, and_imp,
      forall_apply_eq_imp_iff₂] at h
    unfold insertCell
    split
    · rename_i hlt
      simp only [List.map_cons, Rising, List.pairwise_cons, List.mem_cons, List.mem_map, forall_eq_or_imp,
        forall_exists_index, and_imp, forall_apply_eq_imp_iff₂]
      exact ⟨⟨hlt, fun z hz => hlt.trans (h.1 z hz)⟩, h.1, h.2⟩
    · split
      · rename_i heq
        simp only [List.map_cons, Rising, List.pairwise_cons, List.mem_map, forall_exists_index, and_imp,
          forall_apply_eq_imp_iff₂]
        exact ⟨fun z hz => heq ▸ h.1 z hz, h.2⟩
      · rename_i hlt hne
        simp only [List.map_cons, Rising, List.pairwise_cons, List.mem_map, forall_exists_index, and_imp,
          forall_apply_eq_imp_iff₂]
        refine ⟨fun z hz => ?_, ih h.2⟩
        rcases insertCell_keys hz with hz | hz
        · omega
        · exact h.1 z hz

/-- No change but a creation or a removal alters a record's meter number. -/
theorem MeterRecord.change_number (r : MeterRecord) (c : RecordChange) (n : Nat) : (r.change c n).number = r.number := by
  cases c with
  | opening rolled _ _ _ => cases rolled <;> rfl
  | token kind _ _ _ => cases kind <;> rfl
  | create _ => rfl
  | remove => rfl
  | update v =>
    simp only [MeterRecord.change, MeterRecord.update]
    cases v.move <;> rfl
  | state _ => rfl

/-- Every record write keeps the table canonical. -/
theorem writeCells_rising {l : List MeterCell} (h : Rising (l.map (·.record.number))) (w : MeterWrite) :
    Rising ((writeCells l w).map (·.record.number)) := by
  have kept : (l.map (fun c => if c.record.number = w.meter then
      { c with record := c.record.change w.change w.number } else c)).map (·.record.number) =
      l.map (·.record.number) := by
    simp only [List.map_map]
    refine List.map_congr_left (fun c _ => ?_)
    simp only [Function.comp]
    split
    · exact MeterRecord.change_number _ _ _
    · rfl
  unfold writeCells
  split
  · exact insertCell_rising h _
  · exact filter_rising h _
  · rw [kept]; exact h
  · rw [kept]; exact h
  · rw [kept]; exact h
  · rw [kept]; exact h

/-- Replacing a page's entry slots keeps the store canonical. -/
theorem setPage_rising {j : Journal} (h : Rising (j.store.map (·.1))) (p : Nat) (cells : List (Nat × SlotContent)) :
    Rising ((j.setPage p cells).store.map (·.1)) := by
  have fold : ∀ (l : List (Nat × SlotContent)) (j : Journal), Rising (j.store.map (·.1)) →
      Rising ((l.foldl (fun j c => j.put c.1 c.2) j).store.map (·.1)) := by
    intro l
    induction l with
    | nil => exact fun _ h => h
    | cons c l ih => exact fun j h => ih _ (putCell_rising h c.1 c.2)
  exact fold cells _ (filter_rising h _)

/-- The state after reset is canonical. -/
theorem reset_canonical : State.reset.Canonical := ⟨List.Pairwise.nil, List.Pairwise.nil⟩

end Sys2Proof.Machine
end

