-- ==== Sys2Proof/Laws/Entries.lean ====
section
/-! SUPPORT. The bytes of an entry slot and its check: their length, the class of what the Journal writes, and what the
operations over the store leave of each entry slot. -/

namespace Sys2Proof.Machine

theorem beBytes_length (w n : Nat) : (beBytes w n).length = w := by
  induction w with
  | zero => rfl
  | succ w ih => simp [beBytes, ih]

/-- A packed body fills bytes 10 to 61 (R113). -/
theorem EntryBody.packed_length (b : EntryBody) : b.packed.length = 52 := by
  simp only [EntryBody.packed, List.length_take, List.length_append, List.length_replicate]
  omega

/-- The check is computed over 62 bytes (R113). -/
theorem entryBytes_length (n : Nat) (k : SlotNo) (t : Nat) (b : EntryBody) : (entryBytes n k t b).length = 62 := by
  simp [entryBytes, beBytes_length, EntryBody.packed_length]

/-- An entry the Journal has completed has a check that agrees. -/
@[simp] theorem Entry.sealed_agrees (n : Nat) (k : SlotNo) (t : Nat) (b : EntryBody) :
    (Entry.sealed n k t b).agrees = true := by simp [Entry.agrees, Entry.sealed]

/-- An entry whose check agrees is the one the Journal completes from its fields. -/
theorem Entry.eq_sealed {e : Entry} (h : e.agrees = true) : e = Entry.sealed e.number e.slot e.time e.body := by
  have h : e.check = check16 (entryBytes e.number e.slot e.time e.body) := by simpa [Entry.agrees] using h
  cases e
  simp_all [Entry.sealed]

@[simp] theorem SlotContent.judged_sealed (n : Nat) (k : SlotNo) (t : Nat) (b : EntryBody) :
    (SlotContent.written (Entry.sealed n k t b)).judged = .written (Entry.sealed n k t b) := by
  simp [SlotContent.judged]

@[simp] theorem SlotContent.judged_void : SlotContent.void.judged = .void := rfl
@[simp] theorem SlotContent.judged_halfWritten : SlotContent.halfWritten.judged = .halfWritten := rfl

/-- An entry slot is classed written exactly when it holds an entry whose check agrees. -/
theorem SlotContent.judged_eq_written {c : SlotContent} {e : Entry} :
    c.judged = .written e ↔ c = .written e ∧ e.agrees = true := by
  cases c with
  | written f =>
    by_cases h : f.agrees = true
    · simp only [SlotContent.judged, if_pos h, SlotContent.written.injEq]
      exact ⟨fun e => ⟨e, e ▸ h⟩, fun e => e.1⟩
    · simp only [SlotContent.judged, if_neg h, SlotContent.written.injEq, reduceCtorEq, false_iff, not_and]
      exact fun e => e ▸ h
  | void => simp [SlotContent.judged]
  | halfWritten => simp [SlotContent.judged]

/-! ### Cells of the store -/

theorem find_putCell (l : List (Nat × SlotContent)) (a b : Nat) (c : SlotContent) :
    ((putCell l a c).find? (fun x => x.1 == b)).map (·.2) =
      if b = a then some c else (l.find? (fun x => x.1 == b)).map (·.2) := by
  induction l with
  | nil =>
    by_cases h : b = a
    · subst h; simp [putCell]
    · simp [putCell, h, Ne.symm h]
  | cons x l ih =>
    unfold putCell
    split
    · by_cases h : b = a
      · subst h; simp
      · simp [h, Ne.symm h]
    · split
      · rename_i e
        by_cases h : b = a
        · subst h; simp
        · have : ¬ x.1 = b := fun y => h (by rw [← y, e])
          simp [h, Ne.symm h, this]
      · rename_i e
        by_cases hx : x.1 = b
        · have : ¬ b = a := fun y => e (by rw [hx, y])
          simp [hx, this]
        · simp only [List.find?_cons, beq_eq_false_iff_ne.mpr hx]
          exact ih

/-- An entry slot that is written to holds what was put there, and every other one what it held. -/
theorem Journal.put_cell (j : Journal) (a b : Nat) (c : SlotContent) :
    (j.put a c).cell b = if b = a then some c else j.cell b := find_putCell j.store a b c

/-- A page that is blanked holds nothing, and every other page what it held. -/
theorem Journal.blankPage_cell (j : Journal) (p b : Nat) :
    (j.blankPage p).cell b = if b / slotsPerPage = p then none else j.cell b := by
  unfold Journal.cell Journal.blankPage
  induction j.store with
  | nil => simp
  | cons x l ih =>
    by_cases hp : x.1 / slotsPerPage = p
    · rw [List.filter_cons_of_neg (by simp [hp]), ih]
      split
      · rfl
      · rename_i hb
        have hx : ¬ x.1 = b := fun e => hb (e ▸ hp)
        simp [hx]
    · rw [List.filter_cons_of_pos (by simpa using hp)]
      by_cases hx : x.1 = b
      · have hb : ¬ b / slotsPerPage = p := hx ▸ hp
        simp [hx, hb]
      · simp only [List.find?_cons, beq_eq_false_iff_ne.mpr hx]
        exact ih

end Sys2Proof.Machine
end

