-- ==== Sys2Proof/Laws/State.lean ====
section
/-! SUPPORT. What each update of State leaves alone, field by field, true by definition; and what it sets. -/

namespace Sys2Proof.Machine

@[simp] theorem State.modSlot_pending (s : State) (k : SlotNo) (f : Slot → Slot) : (s.modSlot k f).pending = s.pending := rfl
@[simp] theorem State.modSlot_watch (s : State) (k : SlotNo) (f : Slot → Slot) : (s.modSlot k f).watch = s.watch := rfl
@[simp] theorem State.modSlot_port (s : State) (k : SlotNo) (f : Slot → Slot) : (s.modSlot k f).port = s.port := rfl
@[simp] theorem State.modSlot_engine (s : State) (k : SlotNo) (f : Slot → Slot) : (s.modSlot k f).engine = s.engine := rfl
@[simp] theorem State.modSlot_former (s : State) (k : SlotNo) (f : Slot → Slot) : (s.modSlot k f).former = s.former := rfl
@[simp] theorem State.modSlot_tariff (s : State) (k : SlotNo) (f : Slot → Slot) : (s.modSlot k f).tariff = s.tariff := rfl
@[simp] theorem State.modSlot_meters (s : State) (k : SlotNo) (f : Slot → Slot) : (s.modSlot k f).meters = s.meters := rfl
@[simp] theorem State.modSlot_float (s : State) (k : SlotNo) (f : Slot → Slot) : (s.modSlot k f).float = s.float := rfl
@[simp] theorem State.modSlot_journal (s : State) (k : SlotNo) (f : Slot → Slot) : (s.modSlot k f).journal = s.journal := rfl
@[simp] theorem State.modSlot_clock (s : State) (k : SlotNo) (f : Slot → Slot) : (s.modSlot k f).clock = s.clock := rfl
@[simp] theorem State.modSlot_free (s : State) (k : SlotNo) (f : Slot → Slot) : (s.modSlot k f).free = s.free := rfl

@[simp] theorem State.setChannel_pending (s : State) (k : SlotNo) (d : Option Nat) : (s.setChannel k d).pending = s.pending := rfl
@[simp] theorem State.setChannel_watch (s : State) (k : SlotNo) (d : Option Nat) : (s.setChannel k d).watch = s.watch := rfl
@[simp] theorem State.setChannel_port (s : State) (k : SlotNo) (d : Option Nat) : (s.setChannel k d).port = s.port := rfl
@[simp] theorem State.setChannel_slots (s : State) (k : SlotNo) (d : Option Nat) : (s.setChannel k d).slots = s.slots := rfl
@[simp] theorem State.setChannel_engine (s : State) (k : SlotNo) (d : Option Nat) : (s.setChannel k d).engine = s.engine := rfl
@[simp] theorem State.setChannel_former (s : State) (k : SlotNo) (d : Option Nat) : (s.setChannel k d).former = s.former := rfl
@[simp] theorem State.setChannel_tariff (s : State) (k : SlotNo) (d : Option Nat) : (s.setChannel k d).tariff = s.tariff := rfl
@[simp] theorem State.setChannel_meters (s : State) (k : SlotNo) (d : Option Nat) : (s.setChannel k d).meters = s.meters := rfl
@[simp] theorem State.setChannel_float (s : State) (k : SlotNo) (d : Option Nat) : (s.setChannel k d).float = s.float := rfl
@[simp] theorem State.setChannel_journal (s : State) (k : SlotNo) (d : Option Nat) : (s.setChannel k d).journal = s.journal := rfl
@[simp] theorem State.setChannel_free (s : State) (k : SlotNo) (d : Option Nat) : (s.setChannel k d).free = s.free := rfl

@[simp] theorem State.setLock_pending (s : State) (meter : Nat) (o : Option SlotNo) : (s.setLock meter o).pending = s.pending := rfl
@[simp] theorem State.setLock_watch (s : State) (meter : Nat) (o : Option SlotNo) : (s.setLock meter o).watch = s.watch := rfl
@[simp] theorem State.setLock_port (s : State) (meter : Nat) (o : Option SlotNo) : (s.setLock meter o).port = s.port := rfl
@[simp] theorem State.setLock_slots (s : State) (meter : Nat) (o : Option SlotNo) : (s.setLock meter o).slots = s.slots := rfl
@[simp] theorem State.setLock_engine (s : State) (meter : Nat) (o : Option SlotNo) : (s.setLock meter o).engine = s.engine := rfl
@[simp] theorem State.setLock_former (s : State) (meter : Nat) (o : Option SlotNo) : (s.setLock meter o).former = s.former := rfl
@[simp] theorem State.setLock_tariff (s : State) (meter : Nat) (o : Option SlotNo) : (s.setLock meter o).tariff = s.tariff := rfl
@[simp] theorem State.setLock_float (s : State) (meter : Nat) (o : Option SlotNo) : (s.setLock meter o).float = s.float := rfl
@[simp] theorem State.setLock_journal (s : State) (meter : Nat) (o : Option SlotNo) : (s.setLock meter o).journal = s.journal := rfl
@[simp] theorem State.setLock_clock (s : State) (meter : Nat) (o : Option SlotNo) : (s.setLock meter o).clock = s.clock := rfl
@[simp] theorem State.setLock_free (s : State) (meter : Nat) (o : Option SlotNo) : (s.setLock meter o).free = s.free := rfl

@[simp] theorem State.holdFrame_pending (s : State) (k : SlotNo) (b : List Byte) : (s.holdFrame k b).pending = s.pending := rfl
@[simp] theorem State.holdFrame_watch (s : State) (k : SlotNo) (b : List Byte) : (s.holdFrame k b).watch = s.watch := rfl
@[simp] theorem State.holdFrame_port (s : State) (k : SlotNo) (b : List Byte) : (s.holdFrame k b).port = s.port := rfl
@[simp] theorem State.holdFrame_engine (s : State) (k : SlotNo) (b : List Byte) : (s.holdFrame k b).engine = s.engine := rfl
@[simp] theorem State.holdFrame_former (s : State) (k : SlotNo) (b : List Byte) : (s.holdFrame k b).former = s.former := rfl
@[simp] theorem State.holdFrame_tariff (s : State) (k : SlotNo) (b : List Byte) : (s.holdFrame k b).tariff = s.tariff := rfl
@[simp] theorem State.holdFrame_meters (s : State) (k : SlotNo) (b : List Byte) : (s.holdFrame k b).meters = s.meters := rfl
@[simp] theorem State.holdFrame_float (s : State) (k : SlotNo) (b : List Byte) : (s.holdFrame k b).float = s.float := rfl
@[simp] theorem State.holdFrame_journal (s : State) (k : SlotNo) (b : List Byte) : (s.holdFrame k b).journal = s.journal := rfl
@[simp] theorem State.holdFrame_clock (s : State) (k : SlotNo) (b : List Byte) : (s.holdFrame k b).clock = s.clock := rfl
@[simp] theorem State.holdFrame_free (s : State) (k : SlotNo) (b : List Byte) : (s.holdFrame k b).free = s.free := rfl

@[simp] theorem State.respond_pending (s : State) (k : SlotNo) (res : Result) (r : Option Reason) (b : List Byte) : (s.respond k res r b).pending = s.pending := rfl
@[simp] theorem State.respond_watch (s : State) (k : SlotNo) (res : Result) (r : Option Reason) (b : List Byte) : (s.respond k res r b).watch = s.watch := rfl
@[simp] theorem State.respond_port (s : State) (k : SlotNo) (res : Result) (r : Option Reason) (b : List Byte) : (s.respond k res r b).port = s.port := rfl
@[simp] theorem State.respond_engine (s : State) (k : SlotNo) (res : Result) (r : Option Reason) (b : List Byte) : (s.respond k res r b).engine = s.engine := rfl
@[simp] theorem State.respond_former (s : State) (k : SlotNo) (res : Result) (r : Option Reason) (b : List Byte) : (s.respond k res r b).former = s.former := rfl
@[simp] theorem State.respond_tariff (s : State) (k : SlotNo) (res : Result) (r : Option Reason) (b : List Byte) : (s.respond k res r b).tariff = s.tariff := rfl
@[simp] theorem State.respond_meters (s : State) (k : SlotNo) (res : Result) (r : Option Reason) (b : List Byte) : (s.respond k res r b).meters = s.meters := rfl
@[simp] theorem State.respond_float (s : State) (k : SlotNo) (res : Result) (r : Option Reason) (b : List Byte) : (s.respond k res r b).float = s.float := rfl
@[simp] theorem State.respond_journal (s : State) (k : SlotNo) (res : Result) (r : Option Reason) (b : List Byte) : (s.respond k res r b).journal = s.journal := rfl
@[simp] theorem State.respond_clock (s : State) (k : SlotNo) (res : Result) (r : Option Reason) (b : List Byte) : (s.respond k res r b).clock = s.clock := rfl
@[simp] theorem State.respond_free (s : State) (k : SlotNo) (res : Result) (r : Option Reason) (b : List Byte) : (s.respond k res r b).free = s.free := rfl

@[simp] theorem State.enqueue_pending (s : State) (e : QEntry) : (s.enqueue e).pending = s.pending := rfl
@[simp] theorem State.enqueue_watch (s : State) (e : QEntry) : (s.enqueue e).watch = s.watch := rfl
@[simp] theorem State.enqueue_port (s : State) (e : QEntry) : (s.enqueue e).port = s.port := rfl
@[simp] theorem State.enqueue_slots (s : State) (e : QEntry) : (s.enqueue e).slots = s.slots := rfl
@[simp] theorem State.enqueue_engine (s : State) (e : QEntry) : (s.enqueue e).engine = s.engine := rfl
@[simp] theorem State.enqueue_former (s : State) (e : QEntry) : (s.enqueue e).former = s.former := rfl
@[simp] theorem State.enqueue_tariff (s : State) (e : QEntry) : (s.enqueue e).tariff = s.tariff := rfl
@[simp] theorem State.enqueue_meters (s : State) (e : QEntry) : (s.enqueue e).meters = s.meters := rfl
@[simp] theorem State.enqueue_float (s : State) (e : QEntry) : (s.enqueue e).float = s.float := rfl
@[simp] theorem State.enqueue_clock (s : State) (e : QEntry) : (s.enqueue e).clock = s.clock := rfl
@[simp] theorem State.enqueue_free (s : State) (e : QEntry) : (s.enqueue e).free = s.free := rfl

@[simp] theorem State.setReserved_pending (s : State) (n : Nat) : (s.setReserved n).pending = s.pending := rfl
@[simp] theorem State.setReserved_watch (s : State) (n : Nat) : (s.setReserved n).watch = s.watch := rfl
@[simp] theorem State.setReserved_port (s : State) (n : Nat) : (s.setReserved n).port = s.port := rfl
@[simp] theorem State.setReserved_slots (s : State) (n : Nat) : (s.setReserved n).slots = s.slots := rfl
@[simp] theorem State.setReserved_engine (s : State) (n : Nat) : (s.setReserved n).engine = s.engine := rfl
@[simp] theorem State.setReserved_former (s : State) (n : Nat) : (s.setReserved n).former = s.former := rfl
@[simp] theorem State.setReserved_tariff (s : State) (n : Nat) : (s.setReserved n).tariff = s.tariff := rfl
@[simp] theorem State.setReserved_meters (s : State) (n : Nat) : (s.setReserved n).meters = s.meters := rfl
@[simp] theorem State.setReserved_float (s : State) (n : Nat) : (s.setReserved n).float = s.float := rfl
@[simp] theorem State.setReserved_clock (s : State) (n : Nat) : (s.setReserved n).clock = s.clock := rfl
@[simp] theorem State.setReserved_free (s : State) (n : Nat) : (s.setReserved n).free = s.free := rfl

@[simp] theorem State.oweMeterWrite_pending (s : State) (w : MeterWrite) : (s.oweMeterWrite w).pending = s.pending := rfl
@[simp] theorem State.oweMeterWrite_watch (s : State) (w : MeterWrite) : (s.oweMeterWrite w).watch = s.watch := rfl
@[simp] theorem State.oweMeterWrite_port (s : State) (w : MeterWrite) : (s.oweMeterWrite w).port = s.port := rfl
@[simp] theorem State.oweMeterWrite_slots (s : State) (w : MeterWrite) : (s.oweMeterWrite w).slots = s.slots := rfl
@[simp] theorem State.oweMeterWrite_engine (s : State) (w : MeterWrite) : (s.oweMeterWrite w).engine = s.engine := rfl
@[simp] theorem State.oweMeterWrite_former (s : State) (w : MeterWrite) : (s.oweMeterWrite w).former = s.former := rfl
@[simp] theorem State.oweMeterWrite_tariff (s : State) (w : MeterWrite) : (s.oweMeterWrite w).tariff = s.tariff := rfl
@[simp] theorem State.oweMeterWrite_float (s : State) (w : MeterWrite) : (s.oweMeterWrite w).float = s.float := rfl
@[simp] theorem State.oweMeterWrite_journal (s : State) (w : MeterWrite) : (s.oweMeterWrite w).journal = s.journal := rfl
@[simp] theorem State.oweMeterWrite_clock (s : State) (w : MeterWrite) : (s.oweMeterWrite w).clock = s.clock := rfl
@[simp] theorem State.oweMeterWrite_free (s : State) (w : MeterWrite) : (s.oweMeterWrite w).free = s.free := rfl

@[simp] theorem State.endMeterWrite_pending (s : State) (w : MeterWrite) : (s.endMeterWrite w).pending = s.pending := rfl
@[simp] theorem State.endMeterWrite_watch (s : State) (w : MeterWrite) : (s.endMeterWrite w).watch = s.watch := rfl
@[simp] theorem State.endMeterWrite_port (s : State) (w : MeterWrite) : (s.endMeterWrite w).port = s.port := rfl
@[simp] theorem State.endMeterWrite_slots (s : State) (w : MeterWrite) : (s.endMeterWrite w).slots = s.slots := rfl
@[simp] theorem State.endMeterWrite_engine (s : State) (w : MeterWrite) : (s.endMeterWrite w).engine = s.engine := rfl
@[simp] theorem State.endMeterWrite_former (s : State) (w : MeterWrite) : (s.endMeterWrite w).former = s.former := rfl
@[simp] theorem State.endMeterWrite_tariff (s : State) (w : MeterWrite) : (s.endMeterWrite w).tariff = s.tariff := rfl
@[simp] theorem State.endMeterWrite_float (s : State) (w : MeterWrite) : (s.endMeterWrite w).float = s.float := rfl
@[simp] theorem State.endMeterWrite_journal (s : State) (w : MeterWrite) : (s.endMeterWrite w).journal = s.journal := rfl
@[simp] theorem State.endMeterWrite_clock (s : State) (w : MeterWrite) : (s.endMeterWrite w).clock = s.clock := rfl
@[simp] theorem State.endMeterWrite_free (s : State) (w : MeterWrite) : (s.endMeterWrite w).free = s.free := rfl

@[simp] theorem State.releaseReservation_pending (s : State) (k : SlotNo) : (s.releaseReservation k).pending = s.pending := rfl
@[simp] theorem State.releaseReservation_watch (s : State) (k : SlotNo) : (s.releaseReservation k).watch = s.watch := rfl
@[simp] theorem State.releaseReservation_port (s : State) (k : SlotNo) : (s.releaseReservation k).port = s.port := rfl
@[simp] theorem State.releaseReservation_slots (s : State) (k : SlotNo) : (s.releaseReservation k).slots = s.slots := rfl
@[simp] theorem State.releaseReservation_engine (s : State) (k : SlotNo) : (s.releaseReservation k).engine = s.engine := rfl
@[simp] theorem State.releaseReservation_former (s : State) (k : SlotNo) : (s.releaseReservation k).former = s.former := rfl
@[simp] theorem State.releaseReservation_tariff (s : State) (k : SlotNo) : (s.releaseReservation k).tariff = s.tariff := rfl
@[simp] theorem State.releaseReservation_meters (s : State) (k : SlotNo) : (s.releaseReservation k).meters = s.meters := rfl
@[simp] theorem State.releaseReservation_journal (s : State) (k : SlotNo) : (s.releaseReservation k).journal = s.journal := rfl
@[simp] theorem State.releaseReservation_clock (s : State) (k : SlotNo) : (s.releaseReservation k).clock = s.clock := rfl
@[simp] theorem State.releaseReservation_free (s : State) (k : SlotNo) : (s.releaseReservation k).free = s.free := rfl

@[simp] theorem State.reserve_pending (s : State) (k : SlotNo) (n : Nat) : (s.reserve k n).pending = s.pending := rfl
@[simp] theorem State.reserve_watch (s : State) (k : SlotNo) (n : Nat) : (s.reserve k n).watch = s.watch := rfl
@[simp] theorem State.reserve_port (s : State) (k : SlotNo) (n : Nat) : (s.reserve k n).port = s.port := rfl
@[simp] theorem State.reserve_slots (s : State) (k : SlotNo) (n : Nat) : (s.reserve k n).slots = s.slots := rfl
@[simp] theorem State.reserve_engine (s : State) (k : SlotNo) (n : Nat) : (s.reserve k n).engine = s.engine := rfl
@[simp] theorem State.reserve_former (s : State) (k : SlotNo) (n : Nat) : (s.reserve k n).former = s.former := rfl
@[simp] theorem State.reserve_tariff (s : State) (k : SlotNo) (n : Nat) : (s.reserve k n).tariff = s.tariff := rfl
@[simp] theorem State.reserve_meters (s : State) (k : SlotNo) (n : Nat) : (s.reserve k n).meters = s.meters := rfl
@[simp] theorem State.reserve_journal (s : State) (k : SlotNo) (n : Nat) : (s.reserve k n).journal = s.journal := rfl
@[simp] theorem State.reserve_clock (s : State) (k : SlotNo) (n : Nat) : (s.reserve k n).clock = s.clock := rfl
@[simp] theorem State.reserve_free (s : State) (k : SlotNo) (n : Nat) : (s.reserve k n).free = s.free := rfl

@[simp] theorem State.oweFloatWrite_pending (s : State) (r : FloatRecord) (d : FloatDone) : (s.oweFloatWrite r d).pending = s.pending := rfl
@[simp] theorem State.oweFloatWrite_watch (s : State) (r : FloatRecord) (d : FloatDone) : (s.oweFloatWrite r d).watch = s.watch := rfl
@[simp] theorem State.oweFloatWrite_port (s : State) (r : FloatRecord) (d : FloatDone) : (s.oweFloatWrite r d).port = s.port := rfl
@[simp] theorem State.oweFloatWrite_slots (s : State) (r : FloatRecord) (d : FloatDone) : (s.oweFloatWrite r d).slots = s.slots := rfl
@[simp] theorem State.oweFloatWrite_engine (s : State) (r : FloatRecord) (d : FloatDone) : (s.oweFloatWrite r d).engine = s.engine := rfl
@[simp] theorem State.oweFloatWrite_former (s : State) (r : FloatRecord) (d : FloatDone) : (s.oweFloatWrite r d).former = s.former := rfl
@[simp] theorem State.oweFloatWrite_tariff (s : State) (r : FloatRecord) (d : FloatDone) : (s.oweFloatWrite r d).tariff = s.tariff := rfl
@[simp] theorem State.oweFloatWrite_meters (s : State) (r : FloatRecord) (d : FloatDone) : (s.oweFloatWrite r d).meters = s.meters := rfl
@[simp] theorem State.oweFloatWrite_journal (s : State) (r : FloatRecord) (d : FloatDone) : (s.oweFloatWrite r d).journal = s.journal := rfl
@[simp] theorem State.oweFloatWrite_clock (s : State) (r : FloatRecord) (d : FloatDone) : (s.oweFloatWrite r d).clock = s.clock := rfl
@[simp] theorem State.oweFloatWrite_free (s : State) (r : FloatRecord) (d : FloatDone) : (s.oweFloatWrite r d).free = s.free := rfl

@[simp] theorem State.endFloatWrite_pending (s : State) (w : FloatWrite) : (s.endFloatWrite w).pending = s.pending := rfl
@[simp] theorem State.endFloatWrite_watch (s : State) (w : FloatWrite) : (s.endFloatWrite w).watch = s.watch := rfl
@[simp] theorem State.endFloatWrite_port (s : State) (w : FloatWrite) : (s.endFloatWrite w).port = s.port := rfl
@[simp] theorem State.endFloatWrite_slots (s : State) (w : FloatWrite) : (s.endFloatWrite w).slots = s.slots := rfl
@[simp] theorem State.endFloatWrite_engine (s : State) (w : FloatWrite) : (s.endFloatWrite w).engine = s.engine := rfl
@[simp] theorem State.endFloatWrite_former (s : State) (w : FloatWrite) : (s.endFloatWrite w).former = s.former := rfl
@[simp] theorem State.endFloatWrite_tariff (s : State) (w : FloatWrite) : (s.endFloatWrite w).tariff = s.tariff := rfl
@[simp] theorem State.endFloatWrite_meters (s : State) (w : FloatWrite) : (s.endFloatWrite w).meters = s.meters := rfl
@[simp] theorem State.endFloatWrite_journal (s : State) (w : FloatWrite) : (s.endFloatWrite w).journal = s.journal := rfl
@[simp] theorem State.endFloatWrite_clock (s : State) (w : FloatWrite) : (s.endFloatWrite w).clock = s.clock := rfl
@[simp] theorem State.endFloatWrite_free (s : State) (w : FloatWrite) : (s.endFloatWrite w).free = s.free := rfl

@[simp] theorem State.modKey_pending (s : State) (g : Nat) (f : KeyEntry → KeyEntry) : (s.modKey g f).pending = s.pending := rfl
@[simp] theorem State.modKey_watch (s : State) (g : Nat) (f : KeyEntry → KeyEntry) : (s.modKey g f).watch = s.watch := rfl
@[simp] theorem State.modKey_port (s : State) (g : Nat) (f : KeyEntry → KeyEntry) : (s.modKey g f).port = s.port := rfl
@[simp] theorem State.modKey_slots (s : State) (g : Nat) (f : KeyEntry → KeyEntry) : (s.modKey g f).slots = s.slots := rfl
@[simp] theorem State.modKey_engine (s : State) (g : Nat) (f : KeyEntry → KeyEntry) : (s.modKey g f).engine = s.engine := rfl
@[simp] theorem State.modKey_tariff (s : State) (g : Nat) (f : KeyEntry → KeyEntry) : (s.modKey g f).tariff = s.tariff := rfl
@[simp] theorem State.modKey_meters (s : State) (g : Nat) (f : KeyEntry → KeyEntry) : (s.modKey g f).meters = s.meters := rfl
@[simp] theorem State.modKey_float (s : State) (g : Nat) (f : KeyEntry → KeyEntry) : (s.modKey g f).float = s.float := rfl
@[simp] theorem State.modKey_journal (s : State) (g : Nat) (f : KeyEntry → KeyEntry) : (s.modKey g f).journal = s.journal := rfl
@[simp] theorem State.modKey_clock (s : State) (g : Nat) (f : KeyEntry → KeyEntry) : (s.modKey g f).clock = s.clock := rfl
@[simp] theorem State.modKey_free (s : State) (g : Nat) (f : KeyEntry → KeyEntry) : (s.modKey g f).free = s.free := rfl

@[simp] theorem State.modSchedule_pending (s : State) (n : Nat) (f : Schedule → Schedule) : (s.modSchedule n f).pending = s.pending := rfl
@[simp] theorem State.modSchedule_watch (s : State) (n : Nat) (f : Schedule → Schedule) : (s.modSchedule n f).watch = s.watch := rfl
@[simp] theorem State.modSchedule_port (s : State) (n : Nat) (f : Schedule → Schedule) : (s.modSchedule n f).port = s.port := rfl
@[simp] theorem State.modSchedule_slots (s : State) (n : Nat) (f : Schedule → Schedule) : (s.modSchedule n f).slots = s.slots := rfl
@[simp] theorem State.modSchedule_engine (s : State) (n : Nat) (f : Schedule → Schedule) : (s.modSchedule n f).engine = s.engine := rfl
@[simp] theorem State.modSchedule_former (s : State) (n : Nat) (f : Schedule → Schedule) : (s.modSchedule n f).former = s.former := rfl
@[simp] theorem State.modSchedule_meters (s : State) (n : Nat) (f : Schedule → Schedule) : (s.modSchedule n f).meters = s.meters := rfl
@[simp] theorem State.modSchedule_float (s : State) (n : Nat) (f : Schedule → Schedule) : (s.modSchedule n f).float = s.float := rfl
@[simp] theorem State.modSchedule_journal (s : State) (n : Nat) (f : Schedule → Schedule) : (s.modSchedule n f).journal = s.journal := rfl
@[simp] theorem State.modSchedule_clock (s : State) (n : Nat) (f : Schedule → Schedule) : (s.modSchedule n f).clock = s.clock := rfl
@[simp] theorem State.modSchedule_free (s : State) (n : Nat) (f : Schedule → Schedule) : (s.modSchedule n f).free = s.free := rfl

@[simp] theorem State.setStage_pending (s : State) (st : ScanStage) : (s.setStage st).pending = s.pending := rfl
@[simp] theorem State.setStage_port (s : State) (st : ScanStage) : (s.setStage st).port = s.port := rfl
@[simp] theorem State.setStage_slots (s : State) (st : ScanStage) : (s.setStage st).slots = s.slots := rfl
@[simp] theorem State.setStage_engine (s : State) (st : ScanStage) : (s.setStage st).engine = s.engine := rfl
@[simp] theorem State.setStage_former (s : State) (st : ScanStage) : (s.setStage st).former = s.former := rfl
@[simp] theorem State.setStage_tariff (s : State) (st : ScanStage) : (s.setStage st).tariff = s.tariff := rfl
@[simp] theorem State.setStage_meters (s : State) (st : ScanStage) : (s.setStage st).meters = s.meters := rfl
@[simp] theorem State.setStage_float (s : State) (st : ScanStage) : (s.setStage st).float = s.float := rfl
@[simp] theorem State.setStage_journal (s : State) (st : ScanStage) : (s.setStage st).journal = s.journal := rfl
@[simp] theorem State.setStage_clock (s : State) (st : ScanStage) : (s.setStage st).clock = s.clock := rfl
@[simp] theorem State.setStage_free (s : State) (st : ScanStage) : (s.setStage st).free = s.free := rfl

@[simp] theorem State.enterRun_pending (s : State) : (s.enterRun).pending = s.pending := rfl
@[simp] theorem State.enterRun_port (s : State) : (s.enterRun).port = s.port := rfl
@[simp] theorem State.enterRun_slots (s : State) : (s.enterRun).slots = s.slots := rfl
@[simp] theorem State.enterRun_engine (s : State) : (s.enterRun).engine = s.engine := rfl
@[simp] theorem State.enterRun_former (s : State) : (s.enterRun).former = s.former := rfl
@[simp] theorem State.enterRun_tariff (s : State) : (s.enterRun).tariff = s.tariff := rfl
@[simp] theorem State.enterRun_meters (s : State) : (s.enterRun).meters = s.meters := rfl
@[simp] theorem State.enterRun_float (s : State) : (s.enterRun).float = s.float := rfl
@[simp] theorem State.enterRun_journal (s : State) : (s.enterRun).journal = s.journal := rfl
@[simp] theorem State.enterRun_clock (s : State) : (s.enterRun).clock = s.clock := rfl
@[simp] theorem State.enterRun_free (s : State) : (s.enterRun).free = s.free := rfl

@[simp] theorem State.endWrite_pending (s : State) (k : SlotNo) : (s.endWrite k).pending = s.pending := rfl
@[simp] theorem State.endWrite_watch (s : State) (k : SlotNo) : (s.endWrite k).watch = s.watch := rfl
@[simp] theorem State.endWrite_slots (s : State) (k : SlotNo) : (s.endWrite k).slots = s.slots := rfl
@[simp] theorem State.endWrite_engine (s : State) (k : SlotNo) : (s.endWrite k).engine = s.engine := rfl
@[simp] theorem State.endWrite_former (s : State) (k : SlotNo) : (s.endWrite k).former = s.former := rfl
@[simp] theorem State.endWrite_tariff (s : State) (k : SlotNo) : (s.endWrite k).tariff = s.tariff := rfl
@[simp] theorem State.endWrite_meters (s : State) (k : SlotNo) : (s.endWrite k).meters = s.meters := rfl
@[simp] theorem State.endWrite_float (s : State) (k : SlotNo) : (s.endWrite k).float = s.float := rfl
@[simp] theorem State.endWrite_journal (s : State) (k : SlotNo) : (s.endWrite k).journal = s.journal := rfl
@[simp] theorem State.endWrite_clock (s : State) (k : SlotNo) : (s.endWrite k).clock = s.clock := rfl
@[simp] theorem State.endWrite_free (s : State) (k : SlotNo) : (s.endWrite k).free = s.free := rfl

@[simp] theorem State.setNotice_pending (s : State) (k : SlotNo) (n : Notice) : (s.setNotice k n).pending = s.pending := rfl
@[simp] theorem State.setNotice_watch (s : State) (k : SlotNo) (n : Notice) : (s.setNotice k n).watch = s.watch := rfl
@[simp] theorem State.setNotice_port (s : State) (k : SlotNo) (n : Notice) : (s.setNotice k n).port = s.port := rfl
@[simp] theorem State.setNotice_engine (s : State) (k : SlotNo) (n : Notice) : (s.setNotice k n).engine = s.engine := rfl
@[simp] theorem State.setNotice_former (s : State) (k : SlotNo) (n : Notice) : (s.setNotice k n).former = s.former := rfl
@[simp] theorem State.setNotice_tariff (s : State) (k : SlotNo) (n : Notice) : (s.setNotice k n).tariff = s.tariff := rfl
@[simp] theorem State.setNotice_meters (s : State) (k : SlotNo) (n : Notice) : (s.setNotice k n).meters = s.meters := rfl
@[simp] theorem State.setNotice_float (s : State) (k : SlotNo) (n : Notice) : (s.setNotice k n).float = s.float := rfl
@[simp] theorem State.setNotice_journal (s : State) (k : SlotNo) (n : Notice) : (s.setNotice k n).journal = s.journal := rfl
@[simp] theorem State.setNotice_clock (s : State) (k : SlotNo) (n : Notice) : (s.setNotice k n).clock = s.clock := rfl
@[simp] theorem State.setNotice_free (s : State) (k : SlotNo) (n : Notice) : (s.setNotice k n).free = s.free := rfl

@[simp] theorem State.setWindow_pending (s : State) (w : Bool) : (s.setWindow w).pending = s.pending := rfl
@[simp] theorem State.setWindow_watch (s : State) (w : Bool) : (s.setWindow w).watch = s.watch := rfl
@[simp] theorem State.setWindow_port (s : State) (w : Bool) : (s.setWindow w).port = s.port := rfl
@[simp] theorem State.setWindow_slots (s : State) (w : Bool) : (s.setWindow w).slots = s.slots := rfl
@[simp] theorem State.setWindow_engine (s : State) (w : Bool) : (s.setWindow w).engine = s.engine := rfl
@[simp] theorem State.setWindow_former (s : State) (w : Bool) : (s.setWindow w).former = s.former := rfl
@[simp] theorem State.setWindow_tariff (s : State) (w : Bool) : (s.setWindow w).tariff = s.tariff := rfl
@[simp] theorem State.setWindow_meters (s : State) (w : Bool) : (s.setWindow w).meters = s.meters := rfl
@[simp] theorem State.setWindow_journal (s : State) (w : Bool) : (s.setWindow w).journal = s.journal := rfl
@[simp] theorem State.setWindow_clock (s : State) (w : Bool) : (s.setWindow w).clock = s.clock := rfl
@[simp] theorem State.setWindow_free (s : State) (w : Bool) : (s.setWindow w).free = s.free := rfl

@[simp] theorem State.setWarning_pending (s : State) (w : Bool) : (s.setWarning w).pending = s.pending := rfl
@[simp] theorem State.setWarning_port (s : State) (w : Bool) : (s.setWarning w).port = s.port := rfl
@[simp] theorem State.setWarning_slots (s : State) (w : Bool) : (s.setWarning w).slots = s.slots := rfl
@[simp] theorem State.setWarning_engine (s : State) (w : Bool) : (s.setWarning w).engine = s.engine := rfl
@[simp] theorem State.setWarning_former (s : State) (w : Bool) : (s.setWarning w).former = s.former := rfl
@[simp] theorem State.setWarning_tariff (s : State) (w : Bool) : (s.setWarning w).tariff = s.tariff := rfl
@[simp] theorem State.setWarning_meters (s : State) (w : Bool) : (s.setWarning w).meters = s.meters := rfl
@[simp] theorem State.setWarning_float (s : State) (w : Bool) : (s.setWarning w).float = s.float := rfl
@[simp] theorem State.setWarning_journal (s : State) (w : Bool) : (s.setWarning w).journal = s.journal := rfl
@[simp] theorem State.setWarning_clock (s : State) (w : Bool) : (s.setWarning w).clock = s.clock := rfl
@[simp] theorem State.setWarning_free (s : State) (w : Bool) : (s.setWarning w).free = s.free := rfl

@[simp] theorem State.beginProgram_pending (s : State) (a : Nat) : (s.beginProgram a).pending = s.pending := rfl
@[simp] theorem State.beginProgram_watch (s : State) (a : Nat) : (s.beginProgram a).watch = s.watch := rfl
@[simp] theorem State.beginProgram_port (s : State) (a : Nat) : (s.beginProgram a).port = s.port := rfl
@[simp] theorem State.beginProgram_slots (s : State) (a : Nat) : (s.beginProgram a).slots = s.slots := rfl
@[simp] theorem State.beginProgram_engine (s : State) (a : Nat) : (s.beginProgram a).engine = s.engine := rfl
@[simp] theorem State.beginProgram_former (s : State) (a : Nat) : (s.beginProgram a).former = s.former := rfl
@[simp] theorem State.beginProgram_tariff (s : State) (a : Nat) : (s.beginProgram a).tariff = s.tariff := rfl
@[simp] theorem State.beginProgram_meters (s : State) (a : Nat) : (s.beginProgram a).meters = s.meters := rfl
@[simp] theorem State.beginProgram_float (s : State) (a : Nat) : (s.beginProgram a).float = s.float := rfl
@[simp] theorem State.beginProgram_clock (s : State) (a : Nat) : (s.beginProgram a).clock = s.clock := rfl
@[simp] theorem State.beginProgram_free (s : State) (a : Nat) : (s.beginProgram a).free = s.free := rfl

@[simp] theorem State.beginErase_pending (s : State) (p : Nat) : (s.beginErase p).pending = s.pending := rfl
@[simp] theorem State.beginErase_watch (s : State) (p : Nat) : (s.beginErase p).watch = s.watch := rfl
@[simp] theorem State.beginErase_port (s : State) (p : Nat) : (s.beginErase p).port = s.port := rfl
@[simp] theorem State.beginErase_slots (s : State) (p : Nat) : (s.beginErase p).slots = s.slots := rfl
@[simp] theorem State.beginErase_engine (s : State) (p : Nat) : (s.beginErase p).engine = s.engine := rfl
@[simp] theorem State.beginErase_former (s : State) (p : Nat) : (s.beginErase p).former = s.former := rfl
@[simp] theorem State.beginErase_tariff (s : State) (p : Nat) : (s.beginErase p).tariff = s.tariff := rfl
@[simp] theorem State.beginErase_meters (s : State) (p : Nat) : (s.beginErase p).meters = s.meters := rfl
@[simp] theorem State.beginErase_float (s : State) (p : Nat) : (s.beginErase p).float = s.float := rfl
@[simp] theorem State.beginErase_clock (s : State) (p : Nat) : (s.beginErase p).clock = s.clock := rfl
@[simp] theorem State.beginErase_free (s : State) (p : Nat) : (s.beginErase p).free = s.free := rfl

/-! ### Slots read back -/

@[simp] theorem State.modSlot_slot_same (s : State) (k : SlotNo) (f : Slot → Slot) :
    (s.modSlot k f).slot k = f (s.slot k) := by
  simp [State.modSlot, State.slot]

theorem State.modSlot_slot_other (s : State) {j k : SlotNo} (f : Slot → Slot) (h : j ≠ k) :
    (s.modSlot k f).slot j = s.slot j := by
  have h' : k.val ≠ j.val := fun e => h (Fin.ext e.symm)
  simp [State.modSlot, State.slot, h']

theorem State.slot_of_slots_eq {s t : State} (h : t.slots = s.slots) (k : SlotNo) : t.slot k = s.slot k := by
  simp [State.slot, h]

@[simp] theorem State.setChannel_slot (s : State) (k : SlotNo) (d : Option Nat) (j : SlotNo) : (s.setChannel k d).slot j = s.slot j := rfl
@[simp] theorem State.setLock_slot (s : State) (meter : Nat) (o : Option SlotNo) (j : SlotNo) : (s.setLock meter o).slot j = s.slot j := rfl
@[simp] theorem State.enqueue_slot (s : State) (e : QEntry) (j : SlotNo) : (s.enqueue e).slot j = s.slot j := rfl
@[simp] theorem State.setReserved_slot (s : State) (n : Nat) (j : SlotNo) : (s.setReserved n).slot j = s.slot j := rfl
@[simp] theorem State.oweMeterWrite_slot (s : State) (w : MeterWrite) (j : SlotNo) : (s.oweMeterWrite w).slot j = s.slot j := rfl
@[simp] theorem State.endMeterWrite_slot (s : State) (w : MeterWrite) (j : SlotNo) : (s.endMeterWrite w).slot j = s.slot j := rfl
@[simp] theorem State.releaseReservation_slot (s : State) (k : SlotNo) (j : SlotNo) : (s.releaseReservation k).slot j = s.slot j := rfl
@[simp] theorem State.reserve_slot (s : State) (k : SlotNo) (n : Nat) (j : SlotNo) : (s.reserve k n).slot j = s.slot j := rfl
@[simp] theorem State.oweFloatWrite_slot (s : State) (r : FloatRecord) (d : FloatDone) (j : SlotNo) : (s.oweFloatWrite r d).slot j = s.slot j := rfl
@[simp] theorem State.endFloatWrite_slot (s : State) (w : FloatWrite) (j : SlotNo) : (s.endFloatWrite w).slot j = s.slot j := rfl
@[simp] theorem State.modKey_slot (s : State) (g : Nat) (f : KeyEntry → KeyEntry) (j : SlotNo) : (s.modKey g f).slot j = s.slot j := rfl
@[simp] theorem State.modSchedule_slot (s : State) (n : Nat) (f : Schedule → Schedule) (j : SlotNo) : (s.modSchedule n f).slot j = s.slot j := rfl
@[simp] theorem State.setStage_slot (s : State) (st : ScanStage) (j : SlotNo) : (s.setStage st).slot j = s.slot j := rfl
@[simp] theorem State.enterRun_slot (s : State) (j : SlotNo) : (s.enterRun).slot j = s.slot j := rfl
@[simp] theorem State.endWrite_slot (s : State) (k : SlotNo) (j : SlotNo) : (s.endWrite k).slot j = s.slot j := rfl
@[simp] theorem State.setWindow_slot (s : State) (w : Bool) (j : SlotNo) : (s.setWindow w).slot j = s.slot j := rfl
@[simp] theorem State.setWarning_slot (s : State) (w : Bool) (j : SlotNo) : (s.setWarning w).slot j = s.slot j := rfl
@[simp] theorem State.beginProgram_slot (s : State) (a : Nat) (j : SlotNo) : (s.beginProgram a).slot j = s.slot j := rfl
@[simp] theorem State.beginErase_slot (s : State) (p : Nat) (j : SlotNo) : (s.beginErase p).slot j = s.slot j := rfl

/-! ### What the updates set -/

@[simp] theorem State.enqueue_queue (s : State) (e : QEntry) :
    (s.enqueue e).journal.queue = s.journal.queue ++ [e] := rfl

@[simp] theorem State.enqueue_reserved (s : State) (e : QEntry) :
    (s.enqueue e).journal.reserved = s.journal.reserved := rfl

@[simp] theorem State.enqueue_mode (s : State) (e : QEntry) : (s.enqueue e).journal.mode = s.journal.mode := rfl

@[simp] theorem State.enqueue_op (s : State) (e : QEntry) : (s.enqueue e).journal.op = s.journal.op := rfl

@[simp] theorem State.setReserved_reserved (s : State) (n : Nat) : (s.setReserved n).journal.reserved = n := rfl

@[simp] theorem State.setReserved_queue (s : State) (n : Nat) :
    (s.setReserved n).journal.queue = s.journal.queue := rfl

@[simp] theorem State.claimEntry_reserved (s : State) : s.claimEntry.journal.reserved = s.journal.reserved + 1 := rfl

@[simp] theorem State.reserve_reservations (s : State) (k : SlotNo) (n : Nat) :
    (s.reserve k n).float.reservations = s.float.reservations ++ [⟨k, n⟩] := rfl

@[simp] theorem State.oweMeterWrite_writes (s : State) (w : MeterWrite) :
    (s.oweMeterWrite w).meters.writes = s.meters.writes ++ [w] := rfl

@[simp] theorem State.oweFloatWrite_work (s : State) (r : FloatRecord) (d : FloatDone) :
    (s.oweFloatWrite r d).float.work = r := rfl

@[simp] theorem State.endFloatWrite_nv (s : State) (w : FloatWrite) : (s.endFloatWrite w).float.nv = w.record := rfl

end Sys2Proof.Machine
end

