-- ==== Sys2Proof/Laws/Reach.lean ====
section
/-! SUPPORT. Everything a command can do, said once: each meaning is a chain of the elementary updates of `Prim`. A
property that every elementary update keeps is kept by every command (`Reach.keeps` with `exec_reach`). -/

namespace Sys2Proof.Machine

/-- The elementary updates of the state. No update touches the queue of waiting commands or the office code. -/
inductive Prim : State → State → Prop
  /-- Any change that leaves the store, the meter cells and the clock's state and seconds alone; the engine's position
  stays or is a desk slot. -/
  | plain {s t : State} (pending : t.pending = s.pending) (code : t.float.officeCode = s.float.officeCode)
      (store : t.journal.store = s.journal.store) (cells : t.meters.cells = s.meters.cells)
      (clock : t.clock.state = s.clock.state ∧ t.clock.seconds = s.clock.seconds)
      (position : t.engine.position = s.engine.position ∨ t.engine.position ≠ 0) : Prim s t
  | meterLocks (s : State) (f : MeterCell → Option SlotNo) :
      Prim s { s with meters := { s.meters with cells := s.meters.cells.map (fun c => { c with lock := f c }) } }
  | meterRecord (s : State) (w : MeterWrite) :
      Prim s { s with meters := { s.meters with cells := writeCells s.meters.cells w } }
  /-- What is put in one entry slot is void, half-written, or an entry whose check agrees. -/
  | put (s : State) (a : Nat) (c : SlotContent) (h : c.judged = c) : Prim s { s with journal := s.journal.put a c }
  /-- A page under erase takes entry slots it held, or half-written ones. -/
  | setPage (s : State) (p : Nat) (cells : List (Nat × SlotContent))
      (h : ∀ c ∈ cells, c.2 = .halfWritten ∨ c ∈ s.journal.store) : Prim s { s with journal := s.journal.setPage p cells }
  | blankPage (s : State) (p : Nat) : Prim s { s with journal := s.journal.blankPage p }
  | clockRun (s : State) (c : Clock) (h : c.state = .running) : Prim s { s with clock := c }
  | clockUnset (s : State) (c : Clock) (h : c.state = .unset ∧ c.seconds = 0) : Prim s { s with clock := c }

/-- A chain of elementary updates. -/
abbrev Reach : State → State → Prop := Relation.ReflTransGen Prim

theorem Reach.of {s t : State} (h : Prim s t) : Reach s t := .single h

theorem Reach.trans' {s t u : State} (h : Reach s t) (g : Reach t u) : Reach s u := Relation.ReflTransGen.trans h g

theorem Reach.refl' (s : State) : Reach s s := .refl

/-- What every elementary update keeps, every chain keeps. -/
theorem Reach.keeps {P : State → Prop} (hP : ∀ s t, Prim s t → P s → P t) {s t : State} (h : Reach s t) (hs : P s) :
    P t := by
  induction h with
  | refl => exact hs
  | tail _ p ih => exact hP _ _ p ih

theorem Reach.foldl {α : Type} {f : State → α → State} (hf : ∀ s a, Reach s (f s a)) (l : List α) (s : State) :
    Reach s (l.foldl f s) := by
  induction l generalizing s with
  | nil => exact .refl
  | cons a l ih => exact (hf s a).trans' (ih _)

/-! ### Updates of one block -/

theorem Reach.plain {s t : State} (pending : t.pending = s.pending) (code : t.float.officeCode = s.float.officeCode)
    (store : t.journal.store = s.journal.store) (cells : t.meters.cells = s.meters.cells)
    (clock : t.clock.state = s.clock.state ∧ t.clock.seconds = s.clock.seconds)
    (position : t.engine.position = s.engine.position ∨ t.engine.position ≠ 0) : Reach s t :=
  .of (.plain pending code store cells clock position)

theorem modSlot_reach (s : State) (k : SlotNo) (f : Slot → Slot) : Reach s (s.modSlot k f) :=
  .plain rfl rfl rfl rfl ⟨rfl, rfl⟩ (.inl rfl)
theorem holdFrame_reach (s : State) (k : SlotNo) (b : List Byte) : Reach s (s.holdFrame k b) :=
  .plain rfl rfl rfl rfl ⟨rfl, rfl⟩ (.inl rfl)
theorem respond_reach (s : State) (k : SlotNo) (res : Result) (r : Option Reason) (b : List Byte) : Reach s (s.respond k res r b) :=
  .plain rfl rfl rfl rfl ⟨rfl, rfl⟩ (.inl rfl)
theorem setChannel_reach (s : State) (k : SlotNo) (d : Option Nat) : Reach s (s.setChannel k d) :=
  .plain rfl rfl rfl rfl ⟨rfl, rfl⟩ (.inl rfl)
theorem enqueue_reach (s : State) (e : QEntry) : Reach s (s.enqueue e) :=
  .plain rfl rfl rfl rfl ⟨rfl, rfl⟩ (.inl rfl)
theorem setReserved_reach (s : State) (n : Nat) : Reach s (s.setReserved n) :=
  .plain rfl rfl rfl rfl ⟨rfl, rfl⟩ (.inl rfl)
theorem returnShare_reach (s : State) (n : Nat) : Reach s (s.returnShare n) :=
  .plain rfl rfl rfl rfl ⟨rfl, rfl⟩ (.inl rfl)
theorem claimEntry_reach (s : State) : Reach s (s.claimEntry) :=
  .plain rfl rfl rfl rfl ⟨rfl, rfl⟩ (.inl rfl)
theorem oweMeterWrite_reach (s : State) (w : MeterWrite) : Reach s (s.oweMeterWrite w) :=
  .plain rfl rfl rfl rfl ⟨rfl, rfl⟩ (.inl rfl)
theorem releaseReservation_reach (s : State) (k : SlotNo) : Reach s (s.releaseReservation k) :=
  .plain rfl rfl rfl rfl ⟨rfl, rfl⟩ (.inl rfl)
theorem reserve_reach (s : State) (k : SlotNo) (n : Nat) : Reach s (s.reserve k n) :=
  .plain rfl rfl rfl rfl ⟨rfl, rfl⟩ (.inl rfl)
theorem oweFloatWrite_reach (s : State) (r : FloatRecord) (d : FloatDone) : Reach s (s.oweFloatWrite r d) :=
  .plain rfl rfl rfl rfl ⟨rfl, rfl⟩ (.inl rfl)
theorem modKey_reach (s : State) (g : Nat) (f : KeyEntry → KeyEntry) : Reach s (s.modKey g f) :=
  .plain rfl rfl rfl rfl ⟨rfl, rfl⟩ (.inl rfl)
theorem modSchedule_reach (s : State) (n : Nat) (f : Schedule → Schedule) : Reach s (s.modSchedule n f) :=
  .plain rfl rfl rfl rfl ⟨rfl, rfl⟩ (.inl rfl)
theorem setStage_reach (s : State) (st : ScanStage) : Reach s (s.setStage st) :=
  .plain rfl rfl rfl rfl ⟨rfl, rfl⟩ (.inl rfl)
theorem enterRun_reach (s : State) : Reach s (s.enterRun) :=
  .plain rfl rfl rfl rfl ⟨rfl, rfl⟩ (.inl rfl)
theorem setWindow_reach (s : State) (w : Bool) : Reach s (s.setWindow w) :=
  .plain rfl rfl rfl rfl ⟨rfl, rfl⟩ (.inl rfl)
theorem setWarning_reach (s : State) (w : Bool) : Reach s (s.setWarning w) :=
  .plain rfl rfl rfl rfl ⟨rfl, rfl⟩ (.inl rfl)
theorem judge_reach (s : State) : Reach s (s.judge) :=
  .plain rfl rfl rfl rfl ⟨rfl, rfl⟩ (.inl rfl)
theorem discardUnit_reach (s : State) (u : UnitInProgress) : Reach s (s.discardUnit u) :=
  .plain rfl rfl rfl rfl ⟨rfl, rfl⟩ (.inl rfl)
theorem withdrawOpen_reach (s : State) (k : SlotNo) : Reach s (s.withdrawOpen k) :=
  .plain rfl rfl rfl rfl ⟨rfl, rfl⟩ (.inl rfl)
theorem setPendingEnding_reach (s : State) (k : SlotNo) (v : Vend) (r : Reason) : Reach s (s.setPendingEnding k v r) :=
  .plain rfl rfl rfl rfl ⟨rfl, rfl⟩ (.inl rfl)
theorem closeVend_reach (s : State) (k : SlotNo) (v : Vend) (e : Ending) (r : Option Reason) : Reach s (s.closeVend k v e r) :=
  .plain rfl rfl rfl rfl ⟨rfl, rfl⟩ (.inl rfl)
theorem removeVend_reach (s : State) (k : SlotNo) (l : LastEnding) : Reach s (s.removeVend k l) :=
  .plain rfl rfl rfl rfl ⟨rfl, rfl⟩ (.inl rfl)
theorem releaseTarget_reach (s : State) (t : SlotNo) : Reach s (s.releaseTarget t) :=
  .plain rfl rfl rfl rfl ⟨rfl, rfl⟩ (.inl rfl)
theorem placeStart_reach (s : State) : Reach s (s.placeStart) :=
  .plain rfl rfl rfl rfl ⟨rfl, rfl⟩ (.inl rfl)
theorem countReplay_reach (s : State) (r : List Entry) : Reach s (s.countReplay r) :=
  .plain rfl rfl rfl rfl ⟨rfl, rfl⟩ (.inl rfl)
theorem beginProgram_reach (s : State) (a : Nat) : Reach s (s.beginProgram a) :=
  .plain rfl rfl rfl rfl ⟨rfl, rfl⟩ (.inl rfl)
theorem beginErase_reach (s : State) (p : Nat) : Reach s (s.beginErase p) :=
  .plain rfl rfl rfl rfl ⟨rfl, rfl⟩ (.inl rfl)

theorem setLock_reach (s : State) (m : Nat) (o : Option SlotNo) : Reach s (s.setLock m o) := by
  have step := Prim.meterLocks s (fun c => if c.record.number = m then o else c.lock)
  have cells : s.meters.cells.map (fun c => { c with lock := if c.record.number = m then o else c.lock }) =
      (s.meters.setLock m o).cells := by
    unfold Meters.setLock
    apply List.map_congr_left
    intro c _
    split <;> rfl
  rw [cells] at step
  exact .of step

theorem endMeterWrite_reach (s : State) (w : MeterWrite) : Reach s (s.endMeterWrite w) :=
  (Reach.of (.meterRecord s w)).trans' (.plain rfl rfl rfl rfl ⟨rfl, rfl⟩ (.inl rfl))

/-- What an erase cut short leaves of its page is what the page held, or half-written. -/
theorem tearPage_from (j : Journal) (p : Nat) (torn : Nat → TornErase) :
    ∀ c ∈ j.tearPage p torn, c.2 = .halfWritten ∨ c ∈ j.store := by
  intro c hc
  simp only [Journal.tearPage, List.mem_filterMap] at hc
  obtain ⟨i, _, hi⟩ := hc
  split at hi
  · simp only [Journal.cell, Option.map_map, Option.map_eq_some_iff, Function.comp] at hi
    obtain ⟨x, hx, e⟩ := hi
    have ha := List.find?_some hx
    simp only [beq_iff_eq] at ha
    exact .inr (by rw [← e, ← ha]; exact List.mem_of_find?_eq_some hx)
  · cases hi
  · cases hi; exact .inl rfl

theorem putCell_mem {l : List (Nat × SlotContent)} {a : Nat} {c : SlotContent} {x : Nat × SlotContent}
    (h : x ∈ putCell l a c) : x = (a, c) ∨ x ∈ l := by
  induction l with
  | nil => simpa [putCell] using h
  | cons y ys ih =>
    unfold putCell at h
    split at h
    · exact (List.mem_cons.mp h)
    · split at h
      · exact (List.mem_cons.mp h).imp id (List.mem_cons_of_mem _)
      · rcases List.mem_cons.mp h with h | h
        · exact .inr (h ▸ List.mem_cons_self)
        · exact (ih h).imp id (List.mem_cons_of_mem _)

/-- What an erase that does not verify leaves of its page is what the page held, or half-written. -/
theorem partErase_from (j : Journal) (p : Nat) (torn : Nat → TornErase) :
    ∀ c ∈ j.partErase p torn, c.2 = .halfWritten ∨ c ∈ j.store := by
  intro c hc
  unfold Journal.partErase at hc
  dsimp only at hc
  split at hc
  · rcases putCell_mem hc with h | h
    · exact .inl (by rw [h])
    · exact tearPage_from j p torn c h
  · exact tearPage_from j p torn c hc

theorem setPage_reach (s : State) (p : Nat) (cells : List (Nat × SlotContent))
    (h : ∀ c ∈ cells, c.2 = .halfWritten ∨ c ∈ s.journal.store) :
    Reach s { s with journal := s.journal.setPage p cells } := .of (.setPage s p cells h)

theorem wearPage_reach (s : State) (p : Nat) : Reach s { s with journal := s.journal.wearPage p } :=
  (Reach.of (.blankPage s p)).trans' (.plain rfl rfl rfl rfl ⟨rfl, rfl⟩ (.inl rfl))

/-! ### Endings -/

theorem finishWork_reach (n : Nat) (s : State) (k : SlotNo) : Reach s (State.finishWork n s k) := by
  induction n generalizing s k with
  | zero => exact .refl
  | succ n ih =>
    unfold State.finishWork
    split
    · split
      · exact (modSlot_reach _ _ _).trans' ((modSlot_reach _ _ _).trans' (enqueue_reach _ _))
      · exact (modSlot_reach _ _ _).trans' ((respond_reach _ _ _ _ _).trans' ((modSlot_reach _ _ _).trans'
          ((returnShare_reach _ _).trans' (ih _ _))))
    · exact modSlot_reach _ _ _
    · exact modSlot_reach _ _ _

theorem endWork_reach (s : State) (k : SlotNo) : Reach s (s.endWork k) := finishWork_reach _ _ _

theorem endRefused_reach (s : State) (k : SlotNo) (v : Vend) (r : Reason) : Reach s (s.endRefused k v r) :=
  (returnShare_reach _ _).trans' ((releaseReservation_reach _ _).trans' ((setLock_reach _ _ _).trans'
    ((respond_reach _ _ _ _ _).trans' ((removeVend_reach _ _ _).trans' (endWork_reach _ _)))))

theorem endStoreFault_reach (s : State) (k : SlotNo) (v : Vend) : Reach s (s.endStoreFault k v) :=
  (returnShare_reach _ _).trans' ((releaseReservation_reach _ _).trans' ((setLock_reach _ _ _).trans'
    ((respond_reach _ _ _ _ _).trans' ((setChannel_reach _ _ _).trans' ((modSlot_reach _ _ _).trans'
      ((removeVend_reach _ _ _).trans' (endWork_reach _ _)))))))

theorem overtake_reach (s : State) (k : SlotNo) (r : Reason) : Reach s (s.overtake k r) := by
  unfold State.overtake
  split
  · exact .refl
  · split
    · exact .refl
    · split
      · exact .refl
      · split
        · exact setPendingEnding_reach _ _ _ _
        · split
          · exact endRefused_reach _ _ _ _
          · split
            · exact (withdrawOpen_reach _ _).trans' (endRefused_reach _ _ _ _)
            · exact setPendingEnding_reach _ _ _ _
      · split
        · split
          · exact (discardUnit_reach _ _).trans' (closeVend_reach _ _ _ _ _)
          · exact setPendingEnding_reach _ _ _ _
          · exact setPendingEnding_reach _ _ _ _
        · exact (setChannel_reach _ _ _).trans' ((modSlot_reach _ _ _).trans' (closeVend_reach _ _ _ _ _))

theorem releaseClaims_reach (s : State) (b : EntryBody) : Reach s (s.releaseClaims b) := by
  cases b <;> first
    | exact .refl
    | exact setLock_reach _ _ _
    | exact .plain rfl rfl rfl rfl ⟨rfl, rfl⟩ (.inl rfl)

theorem refuseAdmin_reach (s : State) (k : SlotNo) (a : AdminOp) (r : Reason) : Reach s (s.refuseAdmin k a r) := by
  unfold State.refuseAdmin
  dsimp only
  refine Reach.trans' (t := ((s.respond k .refused (some r) (s.lateBody a)).modSlot k
    (fun sl => { sl with admin := none })).returnShare 1) (.plain rfl rfl rfl rfl ⟨rfl, rfl⟩ (.inl rfl)) ?_
  cases a.entry with
  | none => exact endWork_reach _ _
  | some b => exact (releaseClaims_reach _ _).trans' (endWork_reach _ _)

theorem failSlot_reach (s : State) (k : SlotNo) : Reach s (s.failSlot k) := by
  unfold State.failSlot
  split
  · split
    · exact .refl
    · split
      · exact endRefused_reach _ _ _ _
      · exact endStoreFault_reach _ _ _
  · split
    · exact .refl
    · split <;> first
        | exact refuseAdmin_reach _ _ _ _
        | exact .refl

theorem returnToRun_reach (s : State) : Reach s s.returnToRun := by
  unfold State.returnToRun
  split
  · exact enterRun_reach _
  · exact .refl

theorem scanFinish_reach (s : State) : Reach s s.scanFinish := by
  unfold State.scanFinish
  dsimp only
  split <;> exact .plain rfl rfl rfl rfl ⟨rfl, rfl⟩ (.inl rfl)

theorem failUnit_position (e : Engine) : e.failUnit.position = e.position := by
  unfold Engine.failUnit
  split
  · rfl
  · split <;> rfl

theorem enterFailed_reach (s : State) : Reach s s.enterFailed := by
  unfold State.enterFailed
  dsimp only
  refine Reach.trans' (t := { s with journal := s.journal.fail, engine := s.engine.failUnit })
    (.plain rfl rfl rfl rfl ⟨rfl, rfl⟩ (.inl (failUnit_position _))) ?_
  refine (Reach.foldl failSlot_reach slotList _).trans' ((setReserved_reach _ 0).trans' ?_)
  split
  · exact scanFinish_reach _
  · exact returnToRun_reach _

/-! ### The engine -/

theorem searchOrder_ne_zero (p k : SlotNo) (h : k ∈ searchOrder p) : k ≠ 0 := by
  revert p k
  decide

theorem openingTurn_reach (s : State) (k : SlotNo) (v : Vend) (hk : k ≠ 0) : Reach s (s.openingTurn k v) :=
  .plain rfl rfl rfl rfl ⟨rfl, rfl⟩ (.inr hk)

theorem grantUnit_reach (s : State) (k : SlotNo) (v : Vend) (hk : k ≠ 0) : Reach s (s.grantUnit k v) := by
  unfold State.grantUnit
  split
  · exact .plain rfl rfl rfl rfl ⟨rfl, rfl⟩ (.inr hk)
  · exact .refl

theorem grant_reach {s t : State} (h : s.grant? = some t) : Reach s t := by
  unfold State.grant? at h
  split at h
  · split at h
    · cases h
    · rename_i k hk
      have hk0 : k ≠ 0 := searchOrder_ne_zero _ _ (List.mem_of_find?_eq_some hk)
      split at h
      · cases h
      · split at h
        · cases h; exact openingTurn_reach _ _ _ hk0
        · cases h; exact grantUnit_reach _ _ _ hk0
        · cases h
  · cases h

theorem grants_reach (n : Nat) (s : State) : Reach s (State.grants n s) := by
  induction n generalizing s with
  | zero => exact .refl
  | succ n ih =>
    unfold State.grants
    split
    · exact .refl
    · rename_i h; exact (grant_reach h).trans' (ih _)

theorem engineLook_reach (s : State) : Reach s s.engineLook := grants_reach _ _

/-! ### The scan and the Journal -/

theorem replayMeter_reach {s t : State} {m n : Nat} {c : MeterRecord → RecordChange}
    (h : s.replayMeter m n c = some t) : Reach s t := by
  unfold State.replayMeter at h
  split at h
  · cases h
  · split at h
    · cases h; exact oweMeterWrite_reach _ _
    · cases h

theorem replayFloat_reach {s t : State} {n : Nat} {r : FloatRecord} (h : s.replayFloat n r = some t) : Reach s t := by
  unfold State.replayFloat at h
  split at h
  · cases h; exact oweFloatWrite_reach _ _ _
  · cases h

theorem replayClock_reach {s t : State} {o w m n : Nat} (h : s.replayClock o w m n = some t) : Reach s t := by
  unfold State.replayClock at h
  split at h
  · cases h
    split
    · refine .of (.clockRun s _ ?_)
      unfold Clock.replay
      cases s.clock.state <;> simp
    · exact .plain rfl rfl rfl rfl ⟨rfl, rfl⟩ (.inl rfl)
  · cases h

theorem replay_reach {s t : State} {e : Entry} (h : s.replay? e = some t) : Reach s t := by
  unfold State.replay? at h
  split at h
  · exact replayMeter_reach h
  · exact replayMeter_reach h
  · split at h
    · cases h
    · cases h; exact oweMeterWrite_reach _ _
  · exact replayMeter_reach h
  · exact replayMeter_reach h
  · exact replayMeter_reach h
  · exact replayFloat_reach h
  · exact replayFloat_reach h
  · exact replayFloat_reach h
  · dsimp only at h
    split at h
    · cases h; exact .plain rfl rfl rfl rfl ⟨rfl, rfl⟩ (.inl rfl)
    · cases h
  · split at h
    · cases h; exact .plain rfl rfl rfl rfl ⟨rfl, rfl⟩ (.inl rfl)
    · cases h
  · exact replayClock_reach h
  all_goals cases h

theorem scanClose_reach (s : State) : Reach s s.scanClose := by
  unfold State.scanClose
  split
  · exact .plain rfl rfl rfl rfl ⟨rfl, rfl⟩ (.inl rfl)
  · exact placeStart_reach _

theorem scanClear_reach (s : State) : Reach s s.scanClear := by
  unfold State.scanClear
  split
  · exact .plain rfl rfl rfl rfl ⟨rfl, rfl⟩ (.inl rfl)
  · dsimp only
    refine Reach.trans' (t := match s.watch.startKind with
      | .cold => { s with clock := { s.clock with month := s.clock.settingsMonth } }
      | .warm => s) ?_ (scanClose_reach _)
    split
    · exact .plain rfl rfl rfl rfl ⟨rfl, rfl⟩ (.inl rfl)
    · exact .refl

theorem scanReplay_reach (l : List Entry) (s : State) : Reach s (s.scanReplay l) := by
  induction l generalizing s with
  | nil => exact scanClear_reach _
  | cons e l ih =>
    unfold State.scanReplay
    split
    · rename_i h; exact (replay_reach h).trans' (countReplay_reach _ _)
    · exact ih _

theorem setJournalState_reach (s : State) : Reach s s.setJournalState := by
  unfold State.setJournalState
  cases s.watch.startKind <;> exact .plain rfl rfl rfl rfl ⟨rfl, rfl⟩ (.inl rfl)

theorem scanErase_reach (s : State) (l : List Nat) : Reach s (s.scanErase l) := by
  cases l with
  | nil => exact (setJournalState_reach _).trans' (scanReplay_reach _ _)
  | cons p l => exact .plain rfl rfl rfl rfl ⟨rfl, rfl⟩ (.inl rfl)

theorem scanVoid_reach (s : State) (l : List Nat) : Reach s (s.scanVoid l) := by
  cases l with
  | nil => exact scanErase_reach _ _
  | cons p l => exact .plain rfl rfl rfl rfl ⟨rfl, rfl⟩ (.inl rfl)

theorem scanAdvance_reach (s : State) : Reach s s.scanAdvance := by
  unfold State.scanAdvance
  split
  · exact .refl
  · split
    · exact .refl
    · exact scanVoid_reach _ _
    · split
      · exact scanVoid_reach _ _
      · exact .refl
    · split
      · exact scanErase_reach _ _
      · exact .refl
    · split
      · exact scanReplay_reach _ _
      · exact .refl
    · split
      · exact scanClear_reach _
      · exact .refl
    · split
      · exact scanClose_reach _
      · exact .refl
    · exact .refl
    · exact .refl

theorem headLook_reach (s : State) : Reach s s.headLook := by
  unfold State.headLook
  split
  · split
    · exact enterFailed_reach _
    · exact beginProgram_reach _ _
  · split
    · split
      · exact .refl
      · exact beginErase_reach _ _
    · split
      · exact enterFailed_reach _
      · exact .refl

theorem triggerLook_reach (s : State) : Reach s s.triggerLook := by
  unfold State.triggerLook
  split
  · split
    · exact beginErase_reach _ _
    · exact .refl
  · exact .refl

theorem journalLook_reach (s : State) : Reach s s.journalLook := by
  unfold State.journalLook
  split
  · split
    · exact headLook_reach _
    · exact triggerLook_reach _
  · exact .refl

theorem proceed_reach (s : State) : Reach s s.proceed := by
  unfold State.proceed
  split
  · exact (scanAdvance_reach _).trans' (journalLook_reach _)
  · exact (engineLook_reach _).trans' (journalLook_reach _)
  · exact journalLook_reach _

end Sys2Proof.Machine
end

