-- ==== Sys2Proof/Laws/ExecReach.lean ====
section
/-! SUPPORT. Every command answers a next state that is reached by elementary updates. -/

namespace Sys2Proof.Machine

/-- An outcome is a next state reached from s. -/
def ReachesFrom (s : State) (o : Out) : Prop := ∃ t, o = .next t ∧ Reach s t

theorem ReachesFrom.next {s t : State} (h : Reach s t) : ReachesFrom s (.next t) := ⟨t, rfl, h⟩

/-! ### Commits -/

theorem adminDone_reach (s : State) (k : SlotNo) (b : List Byte) : Reach s (s.adminDone k b) := by
  refine Reach.trans' (t := (s.respond k .done none b).modSlot k (fun sl => { sl with admin := none }))
    (.plain rfl rfl rfl rfl ⟨rfl, rfl⟩ (.inl rfl)) (endWork_reach _ _)

theorem toApplying_position (e : Engine) : e.toApplying.position = e.position := by
  unfold Engine.toApplying
  split <;> rfl

theorem commitOpen_reach (s : State) (k : SlotNo) (n : Nat) : Reach s (s.commitOpen k n) := by
  unfold State.commitOpen
  split
  · exact .refl
  · exact .plain rfl rfl rfl rfl ⟨rfl, rfl⟩ (.inl rfl)

theorem commitToken_reach (s : State) (k : SlotNo) (t : TokenEntry) (n : Nat) : Reach s (s.commitToken k t n) := by
  unfold State.commitToken
  split
  · exact .refl
  · exact .plain rfl rfl rfl rfl ⟨rfl, rfl⟩ (.inl (toApplying_position _))

theorem respondEnd_reach (s : State) (k : SlotNo) (v : Vend) (d : EndEntry) : Reach s (s.respondEnd k v d) := by
  unfold State.respondEnd
  split <;> exact respond_reach _ _ _ _ _

theorem commitEnd_reach (s : State) (k : SlotNo) (d : EndEntry) (n : Nat) : Reach s (s.commitEnd k d n) := by
  unfold State.commitEnd
  split
  · exact .refl
  · exact (returnShare_reach _ _).trans' ((releaseReservation_reach _ _).trans' ((oweFloatWrite_reach _ _ _).trans'
      ((setLock_reach _ _ _).trans' ((modSlot_reach _ _ _).trans' ((respondEnd_reach _ _ _ _).trans'
        ((removeVend_reach _ _ _).trans' (endWork_reach _ _)))))))

theorem commitUnbind_reach (s : State) (k t : SlotNo) (n : Nat) : Reach s (s.commitUnbind k t n) := by
  unfold State.commitUnbind
  dsimp only
  split
  · exact .plain rfl rfl rfl rfl ⟨rfl, rfl⟩ (.inl rfl)
  · exact (modSlot_reach _ _ _).trans' (adminDone_reach _ _ _)

theorem commitClock_reach (s : State) (w m n : Nat) : Reach s (s.commitClock w m n) :=
  (Reach.of (.clockRun s (s.clock.set w m n) rfl)).trans' (.plain rfl rfl rfl rfl ⟨rfl, rfl⟩ (.inl rfl))

theorem commitBody_reach (s : State) (e : QEntry) (n : Nat) : Reach s (s.commitBody e n) := by
  unfold State.commitBody
  split
  · exact commitOpen_reach _ _ _
  · exact commitToken_reach _ _ _ _
  · split
    · exact .plain rfl rfl rfl rfl ⟨rfl, rfl⟩ (.inl rfl)
    · exact commitEnd_reach _ _ _ _
  · exact .plain rfl rfl rfl rfl ⟨rfl, rfl⟩ (.inl rfl)
  · exact .plain rfl rfl rfl rfl ⟨rfl, rfl⟩ (.inl rfl)
  · exact .plain rfl rfl rfl rfl ⟨rfl, rfl⟩ (.inl rfl)
  · exact .plain rfl rfl rfl rfl ⟨rfl, rfl⟩ (.inl rfl)
  · exact .plain rfl rfl rfl rfl ⟨rfl, rfl⟩ (.inl rfl)
  · exact .plain rfl rfl rfl rfl ⟨rfl, rfl⟩ (.inl rfl)
  · exact .plain rfl rfl rfl rfl ⟨rfl, rfl⟩ (.inl rfl)
  · exact .plain rfl rfl rfl rfl ⟨rfl, rfl⟩ (.inl rfl)
  · exact commitClock_reach _ _ _ _
  · exact (modSlot_reach _ _ _).trans' (adminDone_reach _ _ _)
  · exact commitUnbind_reach _ _ _ _
  · exact (modSlot_reach _ _ _).trans' (adminDone_reach _ _ _)
  · exact scanFinish_reach _

theorem commit_reach (s : State) (a n time : Nat) (e : QEntry) : Reach s (s.commit a n time e) := by
  refine (Reach.of (.put s a (.written (Entry.sealed n e.slot time e.body)) (SlotContent.judged_sealed _ _ _ _))).trans' ?_
  refine Reach.trans' (t := { s with journal := s.journal.commit a n time e })
    (.plain rfl rfl rfl rfl ⟨rfl, rfl⟩ (.inl rfl)) (commitBody_reach _ _ _)

/-! ### Requests -/

theorem clearNotice_reach (s : State) (k : SlotNo) : Reach s (s.clearNotice k) := by
  unfold State.clearNotice
  split <;> first
    | exact .refl
    | exact modSlot_reach _ _ _

theorem answer_reach (s : State) (k : SlotNo) (i : Instr) (res : Result) (r : Option Reason) (b : List Byte) :
    Reach s (s.answer k i res r b) := by
  unfold State.answer
  split
  · exact .refl
  · exact holdFrame_reach _ _ _

theorem answerRefused_reach (s : State) (k : SlotNo) (i : Instr) (r : Reason) : Reach s (s.answerRefused k i r) :=
  answer_reach _ _ _ _ _ _

theorem accept_reach (s : State) (k : SlotNo) (i : Instr) : Reach s (s.accept k i) := by
  unfold State.accept
  split
  · exact .refl
  · exact modSlot_reach _ _ _

theorem refuse_reach (s : State) (k : SlotNo) (i : Instr) (r : Reason) : Reach s (s.refuse k i r) :=
  .plain rfl rfl rfl rfl ⟨rfl, rfl⟩ (.inl rfl)

theorem take_reach (s : State) (i : Instr) (run : State → SlotNo → State) (h : ∀ s k, Reach s (run s k)) :
    Reach s (s.take i run) := by
  unfold State.take
  split
  · rename_i k _ _ _
    refine Reach.trans' (t := s.endWrite k) (.plain rfl rfl rfl rfl ⟨rfl, rfl⟩ (.inl rfl)) ?_
    dsimp only
    split
    · exact .plain rfl rfl rfl rfl ⟨rfl, rfl⟩ (.inl rfl)
    · refine (clearNotice_reach _ k).trans' ?_
      split
      · exact answerRefused_reach _ _ _ _
      · exact h _ _
  · exact .refl

theorem takeQuery_reach (s : State) (i : Instr) (c : State → SlotNo → List (Bool × Reason))
    (b : State → SlotNo → List Byte) : Reach s (s.takeQuery i c b) := by
  refine take_reach _ _ _ fun s k => ?_
  split
  · exact answerRefused_reach _ _ _ _
  · exact answer_reach _ _ _ _ _ _

theorem takeWork_reach (s : State) (i : Instr) (c : State → SlotNo → List (Bool × Reason))
    (p : State → SlotNo → State) (h : ∀ s k, Reach s (p s k)) : Reach s (s.takeWork i c p) := by
  refine take_reach _ _ _ fun s k => (accept_reach s k i).trans' ?_
  dsimp only
  split
  · exact refuse_reach _ _ _ _
  · exact h _ _

theorem queueAdmin_reach (s : State) (k : SlotNo) (b : EntryBody) : Reach s (s.queueAdmin k b) := by
  refine Reach.trans' (t := (s.claimEntry.modSlot k (fun sl => { sl with admin := some ⟨some b, .queued⟩ })).enqueue
    (adminEntry k b)) (.plain rfl rfl rfl rfl ⟨rfl, rfl⟩ (.inl rfl)) (journalLook_reach _)

theorem setLock_queueAdmin_reach (s : State) (m : Nat) (o : Option SlotNo) (k : SlotNo) (b : EntryBody) :
    Reach s ((s.setLock m o).queueAdmin k b) := (setLock_reach _ _ _).trans' (queueAdmin_reach _ _ _)

theorem admitVend_reach (s : State) (k : SlotNo) (b : VendBody) (r : MeterRecord) (p : Plan) :
    Reach s (s.admitVend k b r p) :=
  (setLock_reach _ _ _).trans' (.plain rfl rfl rfl rfl ⟨rfl, rfl⟩ (.inl rfl))

theorem leaveHeld_reach (s : State) (k : SlotNo) (i : Instr) : Reach s (s.leaveHeld k i) :=
  (setChannel_reach _ _ _).trans' (accept_reach _ _ _)

theorem passUnbind_reach (s : State) (k t : SlotNo) : Reach s (s.passUnbind k t) := by
  unfold State.passUnbind
  dsimp only
  refine (modSlot_reach s t (fun sl => { sl with pendingChange := some (.unbindBy k) })).trans' ?_
  split
  · exact queueAdmin_reach _ _ _
  · split
    · exact (claimEntry_reach _).trans' ((modSlot_reach _ _ _).trans'
        ((overtake_reach _ _ _).trans' (journalLook_reach _)))
    · split
      · exact (claimEntry_reach _).trans' ((modSlot_reach _ _ _).trans' (journalLook_reach _))
      · exact (modSlot_reach _ _ _).trans' (queueAdmin_reach _ _ _)

/-! ### The rest -/

theorem openApplied_reach (s : State) (k : SlotNo) (v : Vend) : Reach s (s.openApplied k v) := by
  unfold State.openApplied
  split
  · exact closeVend_reach _ _ _ _ _
  · split
    · exact closeVend_reach _ _ _ _ _
    · exact modSlot_reach _ _ _

theorem unitApplied_reach (s : State) (k : SlotNo) (v : Vend) (tok : Token) : Reach s (s.unitApplied k v tok) := by
  unfold State.unitApplied
  dsimp only
  refine (modSlot_reach s k (fun sl =>
    { sl with vend := some { v with batch := v.batch ++ [tok], issued := v.issued + 1 } })).trans' ?_
  split
  · exact endStoreFault_reach _ _ _
  · split
    · exact closeVend_reach _ _ _ _ _
    · split
      · exact closeVend_reach _ _ _ _ _
      · split
        · exact .plain rfl rfl rfl rfl ⟨rfl, rfl⟩ (.inl rfl)
        · exact .refl

theorem finishUnit_reach (s : State) (t : Transform) (u : UnitInProgress) : Reach s (s.finishUnit t u) := by
  unfold State.finishUnit
  split
  · split <;> exact .plain rfl rfl rfl rfl ⟨rfl, rfl⟩ (.inl rfl)
  · exact .plain rfl rfl rfl rfl ⟨rfl, rfl⟩ (.inl rfl)

theorem floatResponse_reach (s : State) (w : FloatWrite) : Reach s (s.floatResponse w) := by
  unfold State.floatResponse
  split
  · exact .refl
  · exact adminDone_reach _ _ _
  · exact adminDone_reach _ _ _

theorem stageWritten_reach (s : State) : Reach s s.stageWritten := by
  unfold State.stageWritten
  split
  · exact .plain rfl rfl rfl rfl ⟨rfl, rfl⟩ (.inl rfl)
  · exact refuseAdmin_reach _ _ _ _
  · exact .refl

theorem nextErase_reach (s : State) : Reach s s.nextErase := by
  unfold State.nextErase
  split
  · exact setStage_reach _ _
  · exact .refl

theorem beginVoidMark_reach (s : State) (a : Nat) : Reach s (s.beginVoidMark a) :=
  .plain rfl rfl rfl rfl ⟨rfl, rfl⟩ (.inl rfl)

theorem programFails_reach (s : State) (a : Nat) : Reach s (s.programFails a) := by
  unfold State.programFails
  refine (Reach.of (.put s a .halfWritten rfl)).trans' ?_
  refine Reach.trans' (t := { s with journal := { s.journal.put a .halfWritten with op := .idle } })
    (.plain rfl rfl rfl rfl ⟨rfl, rfl⟩ (.inl rfl)) ?_
  dsimp only
  split
  · exact (enterFailed_reach _).trans' (beginVoidMark_reach _ _)
  · exact beginVoidMark_reach _ _

theorem afterVoidMark_reach (s : State) : Reach s s.afterVoidMark := by
  unfold State.afterVoidMark
  split
  · exact .refl
  · split
    · exact enterFailed_reach _
    · refine Reach.trans' (t := { s with journal := { s.journal with failedOnce := true } })
        (.plain rfl rfl rfl rfl ⟨rfl, rfl⟩ (.inl rfl)) (journalLook_reach _)

theorem refuseWaiting_reach (s : State) (k : SlotNo) : Reach s (s.refuseWaiting k) := by
  unfold State.refuseWaiting
  split
  · exact refuseAdmin_reach _ _ _ _
  · exact .refl

theorem warnStaging_reach (s : State) : Reach s s.warnStaging := by
  unfold State.warnStaging
  split
  · exact modSlot_reach _ _ _
  · exact .refl

theorem overtakeAll_reach (s : State) (r : Reason) : Reach s (s.overtakeAll r) :=
  Reach.foldl (f := fun s k => s.overtake k r) (fun s k => overtake_reach s k r) _ _

theorem releaseWaitedFor_reach (s : State) : Reach s s.releaseWaitedFor := Reach.foldl releaseTarget_reach _ _

theorem enterHoldup_reach (s : State) : Reach s s.enterHoldup := by
  unfold State.enterHoldup
  dsimp only
  refine Reach.trans' (t := { s with watch := { s.watch with part := .holdup } })
    (.plain rfl rfl rfl rfl ⟨rfl, rfl⟩ (.inl rfl)) ?_
  exact (overtakeAll_reach _ _).trans' ((releaseWaitedFor_reach _).trans'
    ((Reach.foldl refuseWaiting_reach _ _).trans' (warnStaging_reach _)))

theorem leaveStarting_reach (s : State) : Reach s s.leaveStarting := by
  unfold State.leaveStarting
  split
  · exact enterRun_reach _
  · exact .refl

theorem tearOp_reach (s : State) (n : Nat) : Reach s { s with journal := s.journal.tearOp n } := by
  unfold Journal.tearOp
  split
  · exact .refl
  · split
    · exact .refl
    · exact .of (.put _ _ _ rfl)
    · exact .of (.put _ _ _ (SlotContent.judged_sealed _ _ _ _))
    · exact .refl
  · split
    · exact .of (.put _ _ _ rfl)
    · exact .of (.put _ _ _ rfl)
  · exact setPage_reach _ _ _ (tearPage_from _ _ _)
  · split
    · exact wearPage_reach _ _
    · exact .refl

theorem tearMeters_reach (s : State) (n : Nat) : Reach s { s with meters := s.meters.tear n } := by
  unfold Meters.tear
  split
  · exact .refl
  · split
    · exact .of (.meterRecord s _)
    · exact .refl

theorem tearHeader_store (j : Journal) (n : Nat) : (j.tearHeader n).store = j.store := by
  unfold Journal.tearHeader
  split
  · rfl
  · split <;> rfl

theorem tearFloat_code (f : FloatAccount) (n : Nat) : (f.tear n).officeCode = f.officeCode := by
  unfold FloatAccount.tear
  split
  · rfl
  · split <;> rfl

theorem tearClock_count (c : Clock) (n : Nat) : (c.tear n).state = c.state ∧ (c.tear n).seconds = c.seconds := by
  unfold Clock.tear
  split
  · exact ⟨rfl, rfl⟩
  · split <;> exact ⟨rfl, rfl⟩

theorem tearDown_reach (s : State) : Reach s s.tearDown :=
  (tearOp_reach s s.free).trans' ((tearMeters_reach _ (s.free + 2)).trans'
    (.plain rfl (tearFloat_code _ _) (tearHeader_store _ _) rfl (tearClock_count _ _) (.inl rfl)))

theorem volatileReset_reach (s : State) (straps : Fin 4) (c : Clock)
    (h : Reach s { s with clock := c }) : Reach s (s.volatileReset straps c) := by
  refine h.trans' ((Reach.of (.meterLocks _ (fun _ => none))).trans' ?_)
  exact .plain rfl rfl rfl rfl ⟨rfl, rfl⟩ (.inr (by decide : (7 : SlotNo) ≠ 0))

/-! ### One lemma per command -/

theorem port_reach {s : State} {p : Port} : Reach s { s with port := p } := .plain rfl rfl rfl rfl ⟨rfl, rfl⟩ (.inl rfl)

theorem execPort_reaches (s : State) :
    (∀ b, ReachesFrom s (execWriteAddressByte b s)) ∧ (∀ b, ReachesFrom s (execAddressByteForAnotherAddress b s)) ∧
      (∀ b, ReachesFrom s (execDataByte b s)) ∧ ReachesFrom s (execEmptyWrite s) ∧ ReachesFrom s (execBadFrame s) ∧
      (∀ b, ReachesFrom s (execReadTransaction b s)) ∧ (∀ a, ReachesFrom s (execAcknowledgeFromMaster a s)) ∧
      ReachesFrom s (execReadEnd s) := by
  refine ⟨fun b => .next ?_, fun b => .next ?_, fun b => .next ?_, .next ?_, .next ?_, fun b => .next ?_,
    fun a => .next ?_, .next ?_⟩
  · split
    · exact port_reach
    · split
      · exact .refl
      · split
        · exact .refl
        · split <;> exact port_reach
  · split
    · exact port_reach
    · split
      · exact .refl
      · split
        · exact port_reach
        · exact .refl
  · split
    · exact port_reach
    · split
      · dsimp only
        split <;> exact port_reach
      all_goals exact .refl
  · split
    · split
      · exact port_reach
      · exact .refl
    all_goals exact .refl
  · split
    · dsimp only
      split
      · rename_i k _ _ _ _
        refine Reach.trans' (t := s.endWrite k) port_reach ?_
        unfold State.handBadFrame
        dsimp only
        split
        · exact .plain rfl rfl rfl rfl ⟨rfl, rfl⟩ (.inl rfl)
        · exact (clearNotice_reach _ _).trans' (holdFrame_reach _ _ _)
      · exact .refl
    all_goals exact .refl
  · split
    · exact port_reach
    · split
      · exact .refl
      · split
        · exact .refl
        · exact port_reach
  · split
    · split <;> exact port_reach
    all_goals exact .refl
  · split
    · exact port_reach
    · exact port_reach
    all_goals exact .refl

theorem execVend_reaches (s : State) :
    (∀ h b, ReachesFrom s (execVend h b s)) ∧ (∀ h n, ReachesFrom s (execContinueVend h n s)) ∧
      (∀ h n, ReachesFrom s (execAbandon h n s)) := by
  refine ⟨fun h b => .next (take_reach _ _ _ fun s k => ?_), fun h n => .next (take_reach _ _ _ fun s k => ?_),
    fun h n => .next (take_reach _ _ _ fun s k => ?_)⟩
  · refine (accept_reach s k (.vend h b)).trans' ?_
    dsimp only
    split
    · exact refuse_reach _ _ _ _
    · exact (admitVend_reach _ _ _ _ _).trans' (proceed_reach _)
  · split
    · exact answerRefused_reach _ _ _ _
    · exact (leaveHeld_reach _ _ _).trans' ((modSlot_reach _ _ _).trans' (proceed_reach _))
  · split
    · exact answerRefused_reach _ _ _ _
    · exact (leaveHeld_reach _ _ _).trans' ((overtake_reach _ _ _).trans' (journalLook_reach _))

theorem execFloat_reaches (s : State) :
    (∀ h c d, ReachesFrom s (execGrantOpen h c d s)) ∧ (∀ h b, ReachesFrom s (execGrant h b s)) ∧
      (∀ h a, ReachesFrom s (execRecall h a s)) := by
  refine ⟨fun h c d => .next (take_reach _ _ _ fun s k => ?_), fun h b => .next (take_reach _ _ _ fun s k => ?_),
    fun h a => .next (takeWork_reach _ _ _ _ fun s k => ?_)⟩
  · split
    · exact answerRefused_reach _ _ _ _
    · split
      · exact (setWindow_reach _ _).trans' (answer_reach _ _ _ _ _ _)
      · exact (setWindow_reach _ _).trans' (answerRefused_reach _ _ _ _)
  · refine (setWindow_reach s false).trans' ((accept_reach _ k (.grant h b)).trans' ?_)
    dsimp only
    split
    · exact refuse_reach _ _ _ _
    · exact queueAdmin_reach _ _ _
  · exact (reserve_reach _ _ _).trans' (queueAdmin_reach _ _ _)

theorem execClock_reaches (s : State) :
    ReachesFrom s (execSecondTick s) ∧ (∀ k, ReachesFrom s (execLeaseExpiry k s)) ∧
      ReachesFrom s (execFloatExpiry s) := by
  refine ⟨.next ?_, fun k => .next ?_, .next ?_⟩
  · unfold Clock.tick
    split
    · exact .refl
    · rename_i h; exact .of (.clockRun s _ h)
  · split
    · exact (setChannel_reach _ _ _).trans' ((overtake_reach _ _ _).trans' (journalLook_reach _))
    · exact .refl
  · split
    · exact .plain rfl rfl rfl rfl ⟨rfl, rfl⟩ (.inl rfl)
    · exact .refl

theorem execStore_reaches (s : State) :
    (∀ v, ReachesFrom s (execProgramCompletion v s)) ∧ ReachesFrom s (execVoidMarkCompletion s) ∧
      (∀ v, ReachesFrom s (execEraseCompletion v s)) ∧ ReachesFrom s (execWornMarkWriteCompletion s) ∧
      ReachesFrom s (execSettleHeaderWriteCompletion s) := by
  refine ⟨fun v => .next ?_, .next ?_, fun v => .next ?_, .next ?_, .next ?_⟩
  · split
    · split
      · split
        · exact (commit_reach _ _ _ _ _).trans' ((returnToRun_reach _).trans' (proceed_reach _))
        · exact .refl
      · exact programFails_reach _ _
    all_goals exact .refl
  · split
    · rename_i a _
      refine (Reach.of (.put s a .void rfl)).trans' ?_
      refine Reach.trans' (t := { s with journal := { s.journal.put a .void with op := .idle } })
        (.plain rfl rfl rfl rfl ⟨rfl, rfl⟩ (.inl rfl)) ?_
      dsimp only
      split
      · exact (setStage_reach _ _).trans' (proceed_reach _)
      · exact afterVoidMark_reach _
    all_goals exact .refl
  · split
    · rename_i p _
      split
      · refine (Reach.of (.blankPage s p)).trans' ?_
        refine Reach.trans' (t := { s with journal := { s.journal.blankPage p with op := .idle } })
          (.plain rfl rfl rfl rfl ⟨rfl, rfl⟩ (.inl rfl)) ((nextErase_reach _).trans' (proceed_reach _))
      · exact (setPage_reach s p _ (partErase_from _ _ _)).trans' (.plain rfl rfl rfl rfl ⟨rfl, rfl⟩ (.inl rfl))
    all_goals exact .refl
  · split
    · rename_i p _
      refine (wearPage_reach s p).trans' ?_
      refine Reach.trans' (t := { s with journal := { s.journal.wearPage p with op := .idle } })
        (.plain rfl rfl rfl rfl ⟨rfl, rfl⟩ (.inl rfl)) ?_
      dsimp only
      split
      · exact enterFailed_reach _
      · exact (nextErase_reach _).trans' (proceed_reach _)
    all_goals exact .refl
  · split
    · exact .refl
    · rename_i w _
      refine Reach.trans' (t := { s with journal := { s.journal with mark := w.target, header := none } })
        (.plain rfl rfl rfl rfl ⟨rfl, rfl⟩ (.inl rfl)) ((adminDone_reach _ _ _).trans' (journalLook_reach _))

theorem execRecords_reaches (s : State) :
    ReachesFrom s (execTransformCompletion s) ∧ ReachesFrom s (execOpenRecordWriteCompletion s) ∧
      ReachesFrom s (execUnitRecordWriteCompletion s) ∧ ReachesFrom s (execMeterWriteCompletion s) ∧
      ReachesFrom s (execFloatWriteCompletion s) ∧ ReachesFrom s (execScheduleWriteCompletion s) ∧
      ReachesFrom s (execStageWriteCompletion s) ∧ ReachesFrom s (execInstallWriteCompletion s) ∧
      ReachesFrom s (execSettingsWriteCompletion s) := by
  refine ⟨.next ?_, .next ?_, .next ?_, .next ?_, .next ?_, .next ?_, .next ?_, .next ?_, .next ?_⟩
  · split
    · refine Reach.trans' (t := s.endTransform) (.plain rfl rfl rfl rfl ⟨rfl, rfl⟩ (.inl rfl)) ?_
      exact (finishUnit_reach _ _ _).trans' (proceed_reach _)
    · exact .refl
  · split
    · rename_i w _ _
      split
      · refine (endMeterWrite_reach s w).trans' ?_
        dsimp only
        split
        · split
          · exact (openApplied_reach _ _ _).trans' (proceed_reach _)
          · exact proceed_reach _
        · exact proceed_reach _
      all_goals exact .refl
    · exact .refl
  · split
    · rename_i w _ _ _ _
      split
      · refine (endMeterWrite_reach s w).trans' ?_
        refine Reach.trans' (t := (s.endMeterWrite w).dropUnit) (.plain rfl rfl rfl rfl ⟨rfl, rfl⟩ (.inl rfl)) ?_
        dsimp only
        split
        · exact (unitApplied_reach _ _ _ _).trans' (proceed_reach _)
        · exact proceed_reach _
      all_goals exact .refl
    · exact .refl
  · split
    · split
      · exact (endMeterWrite_reach s _).trans' ((setLock_reach _ _ _).trans'
          ((adminDone_reach _ _ _).trans' (proceed_reach _)))
      · exact (endMeterWrite_reach s _).trans' (proceed_reach _)
      all_goals exact .refl
    · exact .refl
  · split
    · rename_i w _ _
      refine Reach.trans' (t := s.endFloatWrite w) (.plain rfl rfl rfl rfl ⟨rfl, rfl⟩ (.inl rfl)) ?_
      exact (floatResponse_reach _ _).trans' (proceed_reach _)
    · exact .refl
  · split
    · rename_i b n _
      refine Reach.trans' (t := { s.modSchedule b.schedule (fun _ => Schedule.ofBody b n false) with
        tariff := { (s.modSchedule b.schedule (fun _ => Schedule.ofBody b n false)).tariff with write := none } })
        (.plain rfl rfl rfl rfl ⟨rfl, rfl⟩ (.inl rfl)) ?_
      dsimp only
      split
      · exact (adminDone_reach _ _ _).trans' (proceed_reach _)
      · exact proceed_reach _
    · exact .refl
  · split
    · rename_i g gen _
      refine Reach.trans' (t := (s.modKey g.val (fun e => { e with stage := some gen })).endKeyWrite)
        (.plain rfl rfl rfl rfl ⟨rfl, rfl⟩ (.inl rfl)) ((stageWritten_reach _).trans' (journalLook_reach _))
    · rename_i g _
      refine Reach.trans' (t := (s.modKey g.val (fun e => { e with stage := none })).endKeyWrite)
        (.plain rfl rfl rfl rfl ⟨rfl, rfl⟩ (.inl rfl)) (proceed_reach _)
    all_goals exact .refl
  · split
    · rename_i g n _
      refine Reach.trans' (t := (s.modKey g.val (fun e => { e.install n with loading := false })).endKeyWrite)
        (.plain rfl rfl rfl rfl ⟨rfl, rfl⟩ (.inl rfl)) ?_
      dsimp only
      split
      · exact (adminDone_reach _ _ _).trans' (proceed_reach _)
      · exact proceed_reach _
    all_goals exact .refl
  · split
    · rename_i w _
      refine Reach.trans' (t := { s with clock :=
        { s.clock with settingsMonth := w.month, settingsApplied := w.number, settingsWrite := none } })
        (.plain rfl rfl rfl rfl ⟨rfl, rfl⟩ (.inl rfl)) ?_
      dsimp only
      split
      · exact (adminDone_reach _ _ _).trans' (proceed_reach _)
      · exact proceed_reach _
    · exact .refl

theorem execSupply_reaches (s : State) :
    ReachesFrom s (execSupplyWarning s) ∧ ReachesFrom s (execWarningClear s) ∧
      (∀ p, ReachesFrom s (execWarmReset p s)) ∧ ReachesFrom s (execSupplyLoss s) ∧
      (∀ p, ReachesFrom s (execColdStart p s)) ∧ ReachesFrom s (execRecoveryScanBegin s) := by
  have cold : ∀ s : State, Reach s { s with clock := s.clock.coldReset } :=
    fun s => .of (.clockUnset s _ ⟨rfl, rfl⟩)
  have warm : ∀ s : State, Reach s { s with clock := s.clock.warmReset } :=
    fun s => .plain rfl rfl rfl rfl ⟨rfl, rfl⟩ (.inl rfl)
  refine ⟨.next ?_, .next ?_, fun p => .next ?_, .next ?_, fun p => .next ?_, .next ?_⟩
  · refine (setWarning_reach s true).trans' ?_
    dsimp only
    split
    · exact (enterHoldup_reach _).trans' (journalLook_reach _)
    all_goals exact .refl
  · refine (setWarning_reach s false).trans' ?_
    dsimp only
    split
    · exact .refl
    · exact (returnToRun_reach _).trans' (proceed_reach _)
    · exact (leaveStarting_reach _).trans' (proceed_reach _)
  · split
    · exact (tearDown_reach s).trans' ((volatileReset_reach _ p _ (warm _)).trans'
        (.plain rfl rfl rfl rfl ⟨rfl, rfl⟩ (.inl rfl)))
    · exact .refl
  · split
    · exact (tearDown_reach s).trans' ((volatileReset_reach _ s.tearDown.port.straps _ (cold _)).trans'
        (.plain rfl rfl rfl rfl ⟨rfl, rfl⟩ (.inl rfl)))
    · exact .refl
  · split
    · exact .refl
    · exact (volatileReset_reach _ p _ (cold _)).trans' (.plain rfl rfl rfl rfl ⟨rfl, rfl⟩ (.inl rfl))
  · split
    · refine Reach.trans' (t := { s with watch := { s.watch with resetLine := false } })
        (.plain rfl rfl rfl rfl ⟨rfl, rfl⟩ (.inl rfl)) ?_
      exact (setStage_reach _ _).trans' (proceed_reach _)
    · exact .refl

/-- Every command answers a next state, reached by elementary updates. -/
theorem exec_reach (i : Instr) (s : State) : ReachesFrom s (exec i s) := by
  obtain ⟨p1, p2, p3, p4, p5, p6, p7, p8⟩ := execPort_reaches s
  obtain ⟨v1, v2, v3⟩ := execVend_reaches s
  obtain ⟨f1, f2, f3⟩ := execFloat_reaches s
  obtain ⟨c1, c2, c3⟩ := execClock_reaches s
  obtain ⟨j1, j2, j3, j4, j5⟩ := execStore_reaches s
  obtain ⟨r1, r2, r3, r4, r5, r6, r7, r8, r9⟩ := execRecords_reaches s
  obtain ⟨w1, w2, w3, w4, w5, w6⟩ := execSupply_reaches s
  have work : ∀ (i : Instr) (c : State → SlotNo → List (Bool × Reason)) (p : State → SlotNo → State),
      (∀ s k, Reach s (p s k)) → ReachesFrom s (.next (s.takeWork i c p)) :=
    fun i c p h => .next (takeWork_reach s i c p h)
  match i with
  | .status h => exact .next (takeQuery_reach _ _ _ _)
  | .meterQuery h m => exact .next (takeQuery_reach _ _ _ _)
  | .floatQuery h => exact .next (takeQuery_reach _ _ _ _)
  | .vend h b => exact v1 h b
  | .continueVend h n => exact v2 h n
  | .abandon h n => exact v3 h n
  | .reprint h n => exact .next (takeQuery_reach _ _ _ _)
  | .shiftClose h => exact work _ _ _ fun s k => queueAdmin_reach _ _ _
  | .bind h b => exact work _ _ _ fun s k => (modSlot_reach _ _ _).trans' (queueAdmin_reach _ _ _)
  | .unbind h t => exact work _ _ _ fun s k => passUnbind_reach _ _ _
  | .meterHold h m st => exact work _ _ _ fun s k => setLock_queueAdmin_reach _ _ _ _ _
  | .enrol h b => exact work _ _ _ fun s k => queueAdmin_reach _ _ _
  | .retire h m => exact work _ _ _ fun s k => setLock_queueAdmin_reach _ _ _ _ _
  | .meterUpdate h b => exact work _ _ _ fun s k => setLock_queueAdmin_reach _ _ _ _ _
  | .tariffLoad h b => exact work _ _ _ fun s k => (modSchedule_reach _ _ _).trans' (queueAdmin_reach _ _ _)
  | .keyLoad h b => exact work _ _ _ fun s k => .plain rfl rfl rfl rfl ⟨rfl, rfl⟩ (.inl rfl)
  | .grantOpen h c d => exact f1 h c d
  | .grant h b => exact f2 h b
  | .recall h a => exact f3 h a
  | .clockSet h n m => exact work _ _ _ fun s k => queueAdmin_reach _ _ _
  | .journalRead h n c => exact .next (takeQuery_reach _ _ _ _)
  | .settle h n => exact work _ _ _ fun s k => .plain rfl rfl rfl rfl ⟨rfl, rfl⟩ (.inl rfl)
  | .writeAddressByte b => exact p1 b
  | .dataByte b => exact p3 b
  | .emptyWrite => exact p4
  | .badFrame => exact p5
  | .readTransaction b => exact p6 b
  | .supplyWarning => exact w1
  | .warningClear => exact w2
  | .warmReset p => exact w3 p
  | .supplyLoss => exact w4
  | .coldStart p => exact w5 p
  | .recoveryScanBegin => exact w6
  | .secondTick => exact c1
  | .leaseExpiry k => exact c2 k
  | .floatExpiry => exact c3
  | .transformCompletion => exact r1
  | .programCompletion v => exact j1 v
  | .voidMarkCompletion => exact j2
  | .eraseCompletion v => exact j3 v
  | .wornMarkWriteCompletion => exact j4
  | .openRecordWriteCompletion => exact r2
  | .unitRecordWriteCompletion => exact r3
  | .meterWriteCompletion => exact r4
  | .floatWriteCompletion => exact r5
  | .scheduleWriteCompletion => exact r6
  | .stageWriteCompletion => exact r7
  | .installWriteCompletion => exact r8
  | .settingsWriteCompletion => exact r9
  | .settleHeaderWriteCompletion => exact j5
  | .addressByteForAnotherAddress b => exact p2 b
  | .acknowledgeFromMaster a => exact p7 a
  | .readEnd => exact p8

end Sys2Proof.Machine
end

