-- ==== Sys2Proof/Laws/Requests.lean ====
section
/-! SUPPORT. What taking a request does, said once: the end of its write, the refusal on an UNBOUND slot, the checks of
R141, the two sorts of request of R142, tables of checks and their reasons. -/

namespace Sys2Proof.Machine

theorem State.modSlot_modSlot (s : State) (k : SlotNo) (f g : Slot → Slot) :
    (s.modSlot k f).modSlot k g = s.modSlot k (fun sl => g (f sl)) := by
  simp [State.modSlot, State.slot]

/-- An update that leaves slot k's record alone leaves the state alone. -/
theorem State.modSlot_id (s : State) (k : SlotNo) (f : Slot → Slot) (h : f (s.slot k) = s.slot k) :
    s.modSlot k f = s := by
  unfold State.modSlot
  rw [h]
  simp [State.slot]

/-- The updates of one slot's record agree where their results agree. -/
theorem State.modSlot_congr (s : State) (k : SlotNo) (f g : Slot → Slot) (h : f (s.slot k) = g (s.slot k)) :
    s.modSlot k f = s.modSlot k g := by
  unfold State.modSlot
  rw [h]

/-- Updates of different slots commute. -/
theorem State.modSlot_comm (s : State) {j k : SlotNo} (h : j ≠ k) (f g : Slot → Slot) :
    (s.modSlot j f).modSlot k g = (s.modSlot k g).modSlot j f := by
  have hv : j.val ≠ k.val := fun e => h (Fin.ext e)
  simp only [State.modSlot, State.slot, State.mk.injEq, true_and, and_true]
  apply Vector.ext
  intro i hi
  simp only [Fin.getElem_fin, Vector.getElem_set]
  split <;> split <;> simp_all

theorem State.endWrite_eq (s : State) (k : SlotNo) : s.endWrite k = { s with port := s.port.ended k } := rfl

theorem State.Presented.writeOf {s : State} {k : SlotNo} {at0 : SlotState} {i : Instr} (h : s.Presented k at0 i) :
    s.writeOf i = some (k, at0) := by
  obtain ⟨h1, h2, h3, h4⟩ := h
  unfold State.writeOf
  rw [h3]
  dsimp only
  rw [if_pos ⟨by simp [State.answering, h1, h2], h4⟩]

/-- The state a request of slot k is carried out on: its write ended, the slot's unbound notice cleared. -/
def State.handed (s : State) (k : SlotNo) : State := (s.endWrite k).modSlot k (fun sl => { sl with notice := none })

theorem State.clearNotice_awake {s : State} {k : SlotNo} (h : (s.slot k).state = .idle ∨ (s.slot k).state = .held) :
    s.clearNotice k = s.modSlot k (fun sl => { sl with notice := none }) := by
  unfold State.clearNotice
  rcases h with h | h <;> rw [h]

theorem SlotState.awake_of_admits {st : SlotState} {c : RequestCode} (h : st.admits c = true) :
    st = .idle ∨ st = .held := by
  cases st <;> simp_all [SlotState.admits]

theorem firstFailed_passes {sl : Slot} {c : RequestCode} {h : Header} (tag : h.tag = sl.tag)
    (perm : ∀ item, RequestCode.item c = some item → holdsItem sl.perms item = true) (st : sl.state.admits c = true) :
    firstFailed (sl.checks c h) = none := by
  have perm' : (RequestCode.item c).elim true (holdsItem sl.perms) = true := by
    cases hi : RequestCode.item c with
    | none => rfl
    | some item => exact perm item hi
  simp [Slot.checks, firstFailed, tag, perm', st]

/-- An accepted request is carried out on the handed state. -/
theorem State.take_accepted {s : State} {k : SlotNo} {i : Instr} {c : RequestCode} {h : Header}
    (a : s.Accepted k i c h) (run : State → SlotNo → State) : s.take i run = run (s.handed k) k := by
  obtain ⟨⟨at0, ha, hp⟩, hr, hb, ht, hi, hs⟩ := a
  have awake := SlotState.awake_of_admits hs
  have cleared : (s.endWrite k).clearNotice k = s.handed k := State.clearNotice_awake awake
  unfold State.take
  simp only [hr, hp.writeOf]
  rw [if_neg (by simp [ha, hb]), cleared]
  have pass : firstFailed (((s.handed k).slot k).checks c h) = none := by
    apply firstFailed_passes <;> simp [State.handed, ht, hs]
    simpa [ht] using hi
  rw [pass]

/-- The slot record and the other blocks of the handed state. -/
@[simp] theorem State.handed_slot (s : State) (k : SlotNo) :
    (s.handed k).slot k = { s.slot k with notice := none } := by
  simp [State.handed]

/-- An accepted request of work has made its slot WORKING. -/
theorem State.handed_accept (s : State) (k : SlotNo) {i : Instr} {c : RequestCode} {h : Header}
    (hr : i.request = some (c, h)) :
    (s.handed k).accept k i = (s.endWrite k).modSlot k (fun sl => sl.taken c h) := by
  simp [State.accept, hr, State.handed, State.modSlot_modSlot, Slot.taken]

/-- A request answered at once holds its response and clears the notice. -/
theorem State.handed_answer (s : State) (k : SlotNo) {i : Instr} {c : RequestCode} {h : Header}
    (hr : i.request = some (c, h)) (res : Result) (r : Option Reason) (body : List Byte) :
    (s.handed k).answer k i res r body = (s.endWrite k).modSlot k (fun sl => sl.answered c h res r body) := by
  simp [State.answer, hr, State.handed, State.holdFrame, State.modSlot_modSlot, Slot.answered]

/-- A request whose slot is UNBOUND at the address byte or at the handing goes to the unbound notice. -/
theorem State.take_unbound {s : State} {k : SlotNo} {at0 : SlotState} {i : Instr} {c : RequestCode} {h : Header}
    (hp : s.Presented k at0 i) (hr : i.request = some (c, h)) (hb : at0 = .unbound ∨ (s.slot k).state = .unbound)
    (run : State → SlotNo → State) : s.take i run = (s.endWrite k).setNotice k ⟨c.byte, h.seq, .notBound⟩ := by
  unfold State.take
  simp only [hr, hp.writeOf]
  rw [if_pos (by simpa using hb)]

/-- A request answered at once: the first of its checks that fails, or its DONE. -/
theorem State.takeQuery_accepted {s : State} {k : SlotNo} {i : Instr} {c : RequestCode} {h : Header}
    (a : s.Accepted k i c h) (checks : State → SlotNo → List (Bool × Reason)) (body : State → SlotNo → List Byte) :
    s.takeQuery i checks body =
      match firstFailed (checks (s.handed k) k) with
      | some r => (s.handed k).answerRefused k i r
      | none => (s.endWrite k).modSlot k (fun sl => sl.answered c h .done none (body (s.handed k) k)) := by
  unfold State.takeQuery
  rw [State.take_accepted a]
  cases firstFailed (checks (s.handed k) k) with
  | some r => rfl
  | none => exact State.handed_answer s k a.2.1 _ _ _

/-- A request of work: the first of its checks that fails, or what it does when they pass. -/
theorem State.takeWork_accepted {s : State} {k : SlotNo} {i : Instr} {c : RequestCode} {h : Header}
    (a : s.Accepted k i c h) (checks : State → SlotNo → List (Bool × Reason)) (pass : State → SlotNo → State) :
    s.takeWork i checks pass =
      let u := (s.endWrite k).modSlot k (fun sl => sl.taken c h)
      match firstFailed (checks u k) with
      | some r => u.refuse k i r
      | none => pass u k := by
  unfold State.takeWork
  rw [State.take_accepted a]
  exact congrArg (fun u => match firstFailed (checks u k) with
    | some r => u.refuse k i r
    | none => pass u k) (State.handed_accept s k a.2.1)

/-- A table of checks that are evaluated and one of the same checks as propositions name the same reason. -/
theorem firstFailed_iff {checks : List (Bool × Reason)} {table : List (Prop × Reason)}
    (h : List.Forall₂ (fun c p => (c.1 = true ↔ p.1) ∧ c.2 = p.2) checks table) (r : Reason) :
    firstFailed checks = some r ↔ FirstFailing table r := by
  induction h with
  | nil => simp [firstFailed, FirstFailing]
  | @cons c p _ _ hcp _ ih =>
    obtain ⟨b, q⟩ := c
    obtain ⟨hb, hq⟩ := hcp
    cases b <;> simp_all [firstFailed, FirstFailing]

end Sys2Proof.Machine
end

