-- ==== Sys2Proof/Tests/Slice0.lean ====
section
/-! SUPPORT. Small tests: the field-width check refuses ill-formed terms; the spec's worked figures; and, for each statement
with hypotheses, a state and operands that meet them (test_meets_…). -/

namespace Sys2Proof.Tests
open Sys2Proof.Machine
set_option Elab.async false

/-! ### Well-formed terms, and terms the check refuses -/

theorem test_wellFormed_accepts :
    WellFormed (.vend ⟨1, 2⟩ ⟨99999999999, 500000, 0, 4294967295⟩) = true ∧ WellFormed (.leaseExpiry 7) = true ∧
      WellFormed .secondTick = true := by decide +kernel

theorem test_wellFormed_refuses_meter_past_5_bytes : WellFormed (.meterQuery ⟨0, 0⟩ (256 ^ 5)) = false := by
  decide +kernel

theorem test_wellFormed_refuses_tender_past_3_bytes : WellFormed (.vend ⟨0, 0⟩ ⟨1, 256 ^ 3, 0, 0⟩) = false := by
  decide +kernel

theorem test_wellFormed_refuses_lease_of_channel_zero : WellFormed (.leaseExpiry 0) = false := by decide +kernel

/-! ### Figures worked in the spec -/

/-- R188: the check of the nine digits. -/
theorem test_check_of_the_digits :
    check16 [0x31, 0x32, 0x33, 0x34, 0x35, 0x36, 0x37, 0x38, 0x39] = 0x29B1 := by decide +kernel

/-- R189: the bytes of a STATUS frame before its check. -/
theorem test_status_frame : (encodeFrame (.status ⟨0xA1B2C3D4, 7⟩)).take 6 = [0xA1, 0xB2, 0xC3, 0xD4, 0x01, 7] := by
  decide +kernel

theorem test_decode_has_no_table_word : decodeTableWord 8 0 = none := by decide +kernel

/-- R74 on the worked token: class CREDIT, sequence 65532, payload 1000, day 1234. -/
theorem test_token_check : (plainRecord .credit 65532 1000 1234 0).toNat % 16 = 11 := by decide +kernel

/-- The schedule of the pricing example. -/
def exampleSchedule : Schedule :=
  { steps := [⟨500, 1437⟩, ⟨3500, 2163⟩], lastPrice := 2891, fixed := 2500, allowance := 500, cap := 1000,
    maxTender := 200000, applied := 0, loading := false }

/-- The meter of the pricing example, in the month before. -/
def exampleMeter : MeterRecord :=
  { number := 40127733518, state := .active, group := 1, revision := 3, schedule := 3, lastSeq := 2210,
    monthStamp := 411, monthTenths := 1870, fixed := 2500, freeTaken := false, arrears := 12000, recovery := 20,
    applied := 0 }

/-- R46, R49 on the pricing example: value 2,998,400 in slices of 1,800,000 and 1,198,400. -/
theorem test_worked_price :
    (creditPlan exampleSchedule exampleMeter 40000 412 false).toOption.map (fun p => (p.value, p.units.map (·.value))) =
      some (2998400, [1800000, 1198400]) := by decide +kernel

/-! ### A small part in RUN -/

def meter : MeterRecord :=
  { number := 99999999999, state := .active, group := 1, revision := 3, schedule := 0, lastSeq := 10, monthStamp := 5,
    monthTenths := 0, fixed := 0, freeTaken := false, arrears := 0, recovery := 0, applied := 0 }

/-- One TOKEN of slot 2. -/
def tokenEntry : TokenEntry :=
  { vend := 1, meter := 99999999999, kind := .credit, seq := 10, tenths := 1, value := 100000, revision := 3, code := 0 }

/-- Slot 1 a supervisor, slot 2 a cashier, slot 3 unbound; the clock running, one meter, a live float, two entries. -/
def desk : State :=
  { State.reset with
    watch := ⟨.run, false, false, true, .cold, ⟨.ended, 0, 0⟩⟩
    slots := (Slot.table.set 1 { Slot.deskReset with state := .idle, cls := some .supervisor, tag := 1, perms := 0x3F }).set 2
      { Slot.deskReset with state := .idle, cls := some .cashier, tag := 2, perms := 0x27 }
    clock := { Clock.delivered with state := .running, seconds := 1000, month := 5, taken := 1 }
    meters := ⟨[⟨meter, none⟩], []⟩
    former := ⟨none, (Vector.replicate 4 KeyEntry.delivered).set 1 { KeyEntry.delivered with current := some ⟨3, 5⟩ }, none⟩
    float := { State.reset.float with
      work := ⟨1000000, 1000000000000, 2000, 1, 1⟩, state := .live, windowOpen := true }
    journal := { Journal.delivered with
      store := [(0, .written (Entry.sealed 1 0 0 (.start .cold 0 0))), (1, .written (Entry.sealed 2 2 0 (.token tokenEntry)))]
      last := 2, tail := some 0 } }

def h0 : Header := ⟨0, 1⟩
def h1 : Header := ⟨1, 1⟩
def h2 : Header := ⟨2, 1⟩

/-- The frame of i complete in slot k's buffer, its write open. -/
def present (s : State) (k : SlotNo) (i : Instr) : State :=
  { s with port := { s.port with
      target := .write k (s.slot k).state false, buffers := s.port.buffers.set k (encodeFrame i) } }

/-- What Accepted asks, as a check that can be evaluated. -/
def passes (s : State) (k : SlotNo) (i : Instr) (c : RequestCode) (h : Header) : Bool :=
  s.watch.supply && !s.watch.resetLine && (s.slot k).state != .unbound &&
    (s.port.target == .write k (s.slot k).state false) && (parseFrame s.port.buffers[k] == some i) &&
    (h.tag == (s.slot k).tag) && (RequestCode.item c).all (holdsItem (s.slot k).perms) && (s.slot k).state.admits c

theorem accepted_of_passes {s : State} {k : SlotNo} {i : Instr} {c : RequestCode} {h : Header}
    (hr : i.request = some (c, h)) (hp : passes s k i c h = true) : s.Accepted k i c h := by
  simp only [passes, Bool.and_eq_true, bne_iff_ne, beq_iff_eq, Bool.not_eq_true', Option.all_eq_true] at hp
  obtain ⟨⟨⟨⟨⟨⟨⟨h1, h2⟩, h3⟩, h4⟩, h5⟩, h6⟩, h7⟩, h8⟩ := hp
  exact ⟨⟨_, h3, h1, h2, h4, h5⟩, hr, h3, h6, h7, h8⟩

/-- A slot's record changed. -/
def withSlot (s : State) (k : SlotNo) (f : Slot → Slot) : State := s.modSlot k f

/-- The state with a part state. -/
def inPart (s : State) (p : PartState) : State := { s with watch := { s.watch with part := p } }

def emptyPlan : Plan := ⟨100, 0, 0, 0, 0, 2, 200000, 5, false, [⟨.credit, 1, 100000⟩, ⟨.credit, 1, 100000⟩]⟩

def vend : Vend :=
  { receipt := 9, number := some 1, meter := 99999999999, group := 1, schedule := 0, plan := emptyPlan, phase := .issuing,
    openQueued := true, issued := 1, batch := [], share := 3, pendingEnding := none, ending := none }

/-- Slot 2 with a vend in ISSUING, in a slot state. -/
def vending (st : SlotState) : State :=
  withSlot desk 2 (fun sl => { sl with state := st, vend := some vend, inHand := some (0x04, 7) })

theorem test_meets_invariants :
    desk.Canonical ∧ desk.ChecksAgree ∧ desk.ClockHonest ∧ desk.EngineOnDesks ∧ (vending .held).Canonical := by
  refine ⟨by decide +kernel, ?_, ?_, ?_, by decide +kernel⟩
  · intro c hc e he
    simp only [desk, List.mem_cons, List.not_mem_nil, or_false] at hc
    rcases hc with rfl | rfl <;> cases he <;> decide +kernel
  · intro h; cases h
  · show (7 : SlotNo) ≠ 0
    decide

theorem test_meets_RequestFramesRoundTrip :
    WellFormed (.enrol h0 ⟨7, 1, 1, 3, 7, 65535, 4294967295, 16777215, 1, 16777215, 255⟩) = true ∧
      (Instr.enrol h0 ⟨7, 1, 1, 3, 7, 65535, 4294967295, 16777215, 1, 16777215, 255⟩).request.isSome = true := by
  decide +kernel

/-! ### The bus -/

theorem test_meets_AddressBytesAnswered :
    desk.answering = true ∧ desk.port.awaitsAddress = true ∧ (desk.slot 2).state ≠ .working ∧
      ((vending .working).slot 2).state = .working ∧ (∀ k : SlotNo, (0x10 : Byte) ≠ writeByte 0 k ∧ 0x10 ≠ readByte 0 k) ∧
      State.answering { desk with watch := { desk.watch with resetLine := true } } = false := by decide +kernel

theorem test_meets_DataByteStoredOrOverrun :
    ((present desk 2 (.status h2)).answering = true ∧ (present desk 2 (.status h2)).port.target = .write 2 .idle false) ∧
      (List.replicate 64 (0 : Byte)).length = 64 := by decide +kernel

theorem test_meets_WritesWithoutARequest :
    (parseFrame [] = none ∧ parseFrame [0x00] = none ∧ parseFrame (List.replicate 65 0) = none) ∧
      (desk.slot 3).state = .unbound ∧ (desk.slot 2).state = .idle := by decide +kernel

theorem test_meets_ReadsServeAFixedCopy :
    (desk.answering = true ∧ desk.port.awaitsAddress = true ∧ (∀ k : SlotNo, desk.port.buffers[k] = []) ∧
      ({ desk.port with target := .read 2 [] 1 false }).target = .read 2 [] 1 false) ∧
      (desk.slot 2).state = .idle ∧ (desk.slot 2).held = none ∧ (desk.slot 3).state = .unbound ∧
      (desk.slot 3).notice = none ∧ ((vending .working).slot 2).inHand = some (0x04, 7) := by decide +kernel

theorem presented_of {s : State} {k : SlotNo} {i : Instr} (h1 : s.watch.supply = true) (h2 : s.watch.resetLine = false)
    (h3 : parseFrame s.port.buffers[k] = some i) (h4 : s.port.target = .write k (s.slot k).state false) :
    s.Presented k (s.slot k).state i := ⟨h1, h2, h4, h3⟩

/-- A request to an UNBOUND slot; a wrong tag; a cashier's BIND; a CONTINUE in IDLE. -/
theorem test_meets_ChecksOfARequestRefuseInOrder :
    (present desk 3 (.status h2)).Presented 3 .unbound (.status h2) ∧
      (present desk 2 (.status h1)).Presented 2 .idle (.status h1) ∧ h1.tag ≠ (desk.slot 2).tag ∧
      (present desk 2 (.unbind h2 3)).Presented 2 .idle (.unbind h2 3) ∧
      holdsItem (desk.slot 2).perms .bind = false ∧
      (present desk 2 (.continueVend h2 1)).Presented 2 .idle (.continueVend h2 1) ∧
      (desk.slot 2).state.admits .continueVend = false :=
  ⟨⟨rfl, rfl, rfl, by decide +kernel⟩, ⟨rfl, rfl, rfl, by decide +kernel⟩, by decide, ⟨rfl, rfl, rfl, by decide +kernel⟩,
    by decide +kernel, ⟨rfl, rfl, rfl, by decide +kernel⟩, by decide +kernel⟩

/-! ### Requests -/

theorem test_meets_QueriesAnsweredAtOnce :
    (present desk 0 (.status h0)).Accepted 0 (.status h0) .status h0 ∧
      (present desk 0 (.meterQuery h0 99999999999)).Accepted 0 (.meterQuery h0 99999999999) .meterQuery h0 ∧
      (present desk 0 (.floatQuery h0)).Accepted 0 (.floatQuery h0) .floatQuery h0 ∧
      desk.watch.part = .run ∧ desk.meters.lookup 99999999999 = some ⟨meter, none⟩ ∧
      (present desk 0 (.meterQuery h0 100000000000)).Accepted 0 (.meterQuery h0 100000000000) .meterQuery h0 ∧
      (present desk 0 (.meterQuery h0 1)).Accepted 0 (.meterQuery h0 1) .meterQuery h0 ∧ desk.meters.lookup 1 = none :=
  ⟨accepted_of_passes rfl (by decide +kernel), accepted_of_passes rfl (by decide +kernel),
    accepted_of_passes rfl (by decide +kernel), rfl, by decide +kernel, accepted_of_passes rfl (by decide +kernel),
    accepted_of_passes rfl (by decide +kernel), by decide +kernel⟩

/-- The store with its first entry erased. -/
def gone : State :=
  { desk with journal := { desk.journal with store := [(1, .written (Entry.sealed 2 2 0 (.token tokenEntry)))] } }

/-- A slot without the CROSS_READ permission. -/
def plain (k : SlotNo) : State := withSlot desk k (fun sl => { sl with perms := 0x1F })

theorem test_meets_JournalServedAtOnce :
    (present desk 0 (.journalRead h0 1 3)).Accepted 0 (.journalRead h0 1 3) .journalRead h0 ∧
      (present desk 2 (.reprint h2 2)).Accepted 2 (.reprint h2 2) .reprint h2 ∧
      desk.journal.last = 2 ∧ desk.journal.inStore 1 = true ∧ desk.journal.inStore 2 = true ∧
      desk.journal.entry? 2 = some (Entry.sealed 2 2 0 (.token tokenEntry)) ∧
      (present desk 0 (.journalRead h0 3 1)).Accepted 0 (.journalRead h0 3 1) .journalRead h0 ∧
      (present gone 0 (.journalRead h0 1 1)).Accepted 0 (.journalRead h0 1 1) .journalRead h0 ∧
      gone.journal.inStore 1 = false ∧ gone.journal.last = 2 ∧
      (present desk 2 (.reprint h2 3)).Accepted 2 (.reprint h2 3) .reprint h2 ∧
      (present gone 2 (.reprint h2 1)).Accepted 2 (.reprint h2 1) .reprint h2 ∧
      (present desk 2 (.reprint h2 1)).Accepted 2 (.reprint h2 1) .reprint h2 ∧
      (desk.journal.entry? 1).map (·.body) = some (.start .cold 0 0) ∧
      (present (plain 1) 1 (.reprint h1 2)).Accepted 1 (.reprint h1 2) .reprint h1 ∧
      holdsItem ((plain 1).slot 1).perms .crossRead = false :=
  ⟨accepted_of_passes rfl (by decide +kernel), accepted_of_passes rfl (by decide +kernel), rfl, by decide +kernel,
    by decide +kernel, by decide +kernel, accepted_of_passes rfl (by decide +kernel),
    accepted_of_passes rfl (by decide +kernel), by decide +kernel, rfl, accepted_of_passes rfl (by decide +kernel),
    accepted_of_passes rfl (by decide +kernel), accepted_of_passes rfl (by decide +kernel), by decide +kernel,
    accepted_of_passes rfl (by decide +kernel), by decide +kernel⟩

theorem test_meets_RequestsRefusedOutsideRun :
    (present (inPart desk .starting) 0 (.status h0)).Accepted 0 (.status h0) .status h0 ∧
      (present (inPart desk .holdup) 0 (.status h0)).Accepted 0 (.status h0) .status h0 :=
  ⟨accepted_of_passes rfl (by decide +kernel), accepted_of_passes rfl (by decide +kernel)⟩

def enrolBody : EnrolBody := ⟨7, 1, 1, 3, 7, 65535, 0, 100000, 0, 10000000, 50⟩
def updateBody : UpdateBody := ⟨99999999999, 0x08, 0, 0, 0, 11, 0⟩
def keyBody : KeyBody := ⟨1, 4, 9⟩
def tariffBody : TariffBody := ⟨7, 1, ⟨0, 100000⟩, ⟨0, 0⟩, ⟨0, 0⟩, ⟨0, 0⟩, 0, 0, 100, 100⟩
def grantBody : GrantBody := ⟨2, 10000000000, ~~~10000000000, 1000000000000, 5⟩
def heldUp (k : SlotNo) (i : Instr) : State := present (inPart desk .holdup) k i

theorem test_meets_RefusedAdminRequestsChangeNothing :
    ((heldUp 2 (.shiftClose h2)).Accepted 2 (.shiftClose h2) .shiftClose h2 ∧
      (heldUp 1 (.meterHold h1 1 0)).Accepted 1 (.meterHold h1 1 0) .meterHold h1 ∧
      (heldUp 0 (.enrol h0 enrolBody)).Accepted 0 (.enrol h0 enrolBody) .enrol h0 ∧
      (heldUp 0 (.retire h0 1)).Accepted 0 (.retire h0 1) .retire h0 ∧
      (heldUp 0 (.meterUpdate h0 updateBody)).Accepted 0 (.meterUpdate h0 updateBody) .meterUpdate h0 ∧
      (heldUp 0 (.keyLoad h0 keyBody)).Accepted 0 (.keyLoad h0 keyBody) .keyLoad h0 ∧
      (heldUp 0 (.recall h0 1)).Accepted 0 (.recall h0 1) .recall h0 ∧
      (heldUp 0 (.clockSet h0 5 6)).Accepted 0 (.clockSet h0 5 6) .clockSet h0 ∧
      (heldUp 1 (.bind h1 ⟨3, 5, 2, 0x27, 900⟩)).Accepted 1 (.bind h1 ⟨3, 5, 2, 0x27, 900⟩) .bind h1 ∧
      (heldUp 1 (.unbind h1 2)).Accepted 1 (.unbind h1 2) .unbind h1 ∧
      (heldUp 0 (.tariffLoad h0 tariffBody)).Accepted 0 (.tariffLoad h0 tariffBody) .tariffLoad h0 ∧
      (heldUp 0 (.settle h0 2)).Accepted 0 (.settle h0 2) .settle h0) ∧
    ∀ l, firstFailed ((inPart desk .holdup).partChecks ++ l) = some .powerLow :=
  ⟨⟨accepted_of_passes rfl (by decide +kernel), accepted_of_passes rfl (by decide +kernel),
    accepted_of_passes rfl (by decide +kernel), accepted_of_passes rfl (by decide +kernel),
    accepted_of_passes rfl (by decide +kernel), accepted_of_passes rfl (by decide +kernel),
    accepted_of_passes rfl (by decide +kernel), accepted_of_passes rfl (by decide +kernel),
    accepted_of_passes rfl (by decide +kernel), accepted_of_passes rfl (by decide +kernel),
    accepted_of_passes rfl (by decide +kernel), accepted_of_passes rfl (by decide +kernel)⟩, fun _ => rfl⟩

/-- A VEND of 1000 cents buys one tenth at the delivered price, and one of 500001 is refused BAD_FIELD. -/
theorem test_meets_AdmissionDecidesTheClaims :
    (present desk 2 (.vend h2 ⟨99999999999, 1000, 0, 9⟩)).Accepted 2 (.vend h2 ⟨99999999999, 1000, 0, 9⟩) .vend h2 ∧
      (present desk 2 (.vend h2 ⟨99999999999, 500001, 0, 9⟩)).Accepted 2 (.vend h2 ⟨99999999999, 500001, 0, 9⟩) .vend h2 ∧
      ((State.admission { desk with tariff := { desk.tariff with
          schedules := desk.tariff.schedules.set 0 { Schedule.delivered with maxTender := 500000 } } }
        ⟨99999999999, 1000, 0, 9⟩).toOption.map (fun rp => rp.2.value) = some 100000) ∧
      (desk.admission ⟨99999999999, 500001, 0, 9⟩).toOption = none :=
  ⟨accepted_of_passes rfl (by decide +kernel), accepted_of_passes rfl (by decide +kernel), by decide +kernel,
    by decide +kernel⟩

/-- A reason of each list of admission's checks: a field, the meter's, pricing's, and one after it. -/
theorem test_meets_AdmissionPassesWhenEveryStepDoes :
    (∀ l, FirstFailing ([((1 : Nat) ≤ 0, .badField)] ++ l) .badField) ∧
      (∀ l, FirstFailing ([(True, .badField), (MeterState.blocked = .active, .meterBlocked)] ++ l) .meterBlocked) ∧
      makePlan exampleSchedule exampleMeter 0 200001 412 false = .error .amountLimit ∧
      makePlan exampleSchedule { exampleMeter with monthStamp := 412, freeTaken := true } 1 0 412 false =
        .error .freeTaken ∧
      makePlan exampleSchedule { exampleMeter with monthStamp := 412, arrears := 0 } 0 10 412 false =
        .error .tenderLow :=
  ⟨fun _ => Or.inl ⟨by decide, rfl⟩, fun _ => Or.inr ⟨trivial, Or.inl ⟨by decide, rfl⟩⟩, by decide +kernel,
    by decide +kernel, by decide +kernel⟩

/-- The lease's deadline is met exactly. -/
def leased : State := (vending .held).setChannel 2 (some 1000)

/-- CONTINUE and ABANDON with the vend's number and with another. -/
theorem test_meets_HeldVendGoesOnOrEnds :
    (∀ n, n = 1 ∨ n = 2 → (present leased 2 (.continueVend h2 n)).Accepted 2 (.continueVend h2 n) .continueVend h2 ∧
      (present leased 2 (.abandon h2 n)).Accepted 2 (.abandon h2 n) .abandon h2) ∧
      leased.watch.part = .run ∧ leased.IssuingAlone 2 vend ∧ vend.number = some 1 ∧
      leased.clock.channels[(2 : Fin 8)] = some 1000 ∧ leased.clock.seconds = 1000 := by
  refine ⟨?_, rfl, ⟨by decide +kernel, rfl, rfl, rfl⟩, rfl, by decide +kernel, rfl⟩
  rintro n (rfl | rfl) <;> exact ⟨accepted_of_passes rfl (by decide +kernel), accepted_of_passes rfl (by decide +kernel)⟩

/-- CLOCK_SET exactly 600 seconds back. -/
theorem test_meets_SlotAndClockRequestsQueueTheirEntries :
    (present desk 2 (.shiftClose h2)).Accepted 2 (.shiftClose h2) .shiftClose h2 ∧
      (present desk 0 (.clockSet h0 400 65535)).Accepted 0 (.clockSet h0 400 65535) .clockSet h0 ∧
      desk.Running ∧ desk.TakesEntry ∧ desk.clock.seconds ≤ 400 + 600 :=
  ⟨accepted_of_passes rfl (by decide +kernel), accepted_of_passes rfl (by decide +kernel), rfl,
    ⟨rfl, by decide +kernel⟩, by decide⟩

theorem test_meets_SlotAndClockRequestsQueueTheirEntries_bind :
    (present desk 1 (.bind h1 ⟨3, 5, 2, 0x27, 900⟩)).Accepted 1 (.bind h1 ⟨3, 5, 2, 0x27, 900⟩) .bind h1 ∧
      (present desk 0 (.bind h0 ⟨7, 5, 1, 0x3F, 0⟩)).Accepted 0 (.bind h0 ⟨7, 5, 1, 0x3F, 0⟩) .bind h0 ∧
      (0x27 : BitVec 8) &&& ~~~SlotClass.cashier.mayHold = 0 ∧ (0x3F : BitVec 8) &&& ~~~SlotClass.supervisor.mayHold = 0 ∧
      (0x27 : BitVec 8) &&& ~~~(desk.slot 1).perms = 0 ∧
      (desk.slot 3).state = .unbound ∧ (desk.slot 7).state = .unbound ∧ desk.tagTaken 5 = false :=
  ⟨accepted_of_passes rfl (by decide +kernel), accepted_of_passes rfl (by decide +kernel), by decide +kernel,
    by decide +kernel, by decide +kernel, by decide +kernel, by decide +kernel, by decide +kernel⟩

/-- Slot 2 with an admin operation in hand. -/
def closing : State :=
  withSlot desk 2 (fun sl => { sl with state := .working, admin := some ⟨some (.shiftClose Till.zero), .queued⟩ })

theorem test_meets_UnbindMarksItsTarget :
    (present desk 1 (.unbind h1 1)).Accepted 1 (.unbind h1 1) .unbind h1 ∧
      (present desk 1 (.unbind h1 2)).Accepted 1 (.unbind h1 2) .unbind h1 ∧ (desk.slot 2).cls = some .cashier ∧
      (present closing 1 (.unbind h1 2)).Accepted 1 (.unbind h1 2) .unbind h1 ∧ (closing.slot 2).admin ≠ none ∧
      (present leased 1 (.unbind h1 2)).Accepted 1 (.unbind h1 2) .unbind h1 ∧ leased.IssuingAlone 2 vend ∧
      (leased.slot 2).admin = none :=
  ⟨accepted_of_passes rfl (by decide +kernel), accepted_of_passes rfl (by decide +kernel), by decide +kernel,
    accepted_of_passes rfl (by decide +kernel), by decide +kernel, accepted_of_passes rfl (by decide +kernel),
    ⟨by decide +kernel, rfl, rfl, rfl⟩, by decide +kernel⟩

theorem test_meets_MeterRequestsTakeTheLock :
    (present desk 1 (.meterHold h1 99999999999 1)).Accepted 1 (.meterHold h1 99999999999 1) .meterHold h1 ∧
      (present desk 0 (.retire h0 99999999999)).Accepted 0 (.retire h0 99999999999) .retire h0 ∧
      (present desk 0 (.meterUpdate h0 updateBody)).Accepted 0 (.meterUpdate h0 updateBody) .meterUpdate h0 ∧
      updateBody.inRange = true ∧ updateBody.has 3 = true ∧ meter.lastSeq < updateBody.lastSeq ∧
      desk.meters.lookup 99999999999 = some ⟨meter, none⟩ ∧ MeterState.ofCode 1 = some .blocked :=
  ⟨accepted_of_passes rfl (by decide +kernel), accepted_of_passes rfl (by decide +kernel),
    accepted_of_passes rfl (by decide +kernel), by decide +kernel, by decide +kernel, by decide, by decide +kernel, rfl⟩

/-- The key move of a METER_UPDATE: to the current revision of a group the meter is not in. -/
theorem test_meets_MeterRequestsTakeTheLock_move :
    UpdateBody.inRange ⟨99999999999, 0x10, 0, 0, 0, 0, 1⟩ = true ∧
      State.currentRevision desk 1 = some 3 ∧ ({ meter with revision := 2 }).revision ≠ 3 := by decide +kernel

theorem test_meets_EnrolQueuesTheRecord :
    (present desk 0 (.enrol h0 enrolBody)).Accepted 0 (.enrol h0 enrolBody) .enrol h0 ∧ enrolBody.inRange = true ∧
      desk.clock.state = .running ∧ desk.meters.lookup 7 = none ∧ desk.meters.cells.length < 16384 ∧
      Entry.sealed 2 2 0 (.token tokenEntry) ∈ desk.journal.entries :=
  ⟨accepted_of_passes rfl (by decide +kernel), by decide +kernel, rfl, by decide +kernel, by decide +kernel,
    by decide +kernel⟩

theorem test_meets_LoadsSetLoading :
    (present desk 0 (.tariffLoad h0 tariffBody)).Accepted 0 (.tariffLoad h0 tariffBody) .tariffLoad h0 ∧
      tariffBody.inRange = true ∧ (present desk 0 (.keyLoad h0 keyBody)).Accepted 0 (.keyLoad h0 keyBody) .keyLoad h0 ∧
      desk.currentRevision 1 = some 3 ∧ desk.groupBusy 1 = false :=
  ⟨accepted_of_passes rfl (by decide +kernel), by decide +kernel, accepted_of_passes rfl (by decide +kernel),
    by decide +kernel, by decide +kernel⟩

/-- An empty balance, so that the largest amount just fits the largest ceiling. -/
def poor : State := { desk with float := { desk.float with work := ⟨0, 0, 2000, 1, 1⟩ } }

theorem test_meets_FloatRequestsTakeEffect :
    (present desk 0 (.grantOpen h0 7 8)).Accepted 0 (.grantOpen h0 7 8) .grantOpen h0 ∧
      (present poor 0 (.grant h0 grantBody)).Accepted 0 (.grant h0 grantBody) .grant h0 ∧
      grantBody.amount.toNat = 10000000000 ∧ poor.float.work.balance + grantBody.amount.toNat * 100 ≤ grantBody.ceiling ∧
      firstFailed (poor.grantChecks true grantBody) = none ∧
      firstFailed (desk.grantChecks true grantBody) = some .ceiling ∧
      (present desk 0 (.recall h0 10000)).Accepted 0 (.recall h0 10000) .recall h0 ∧
      desk.float.reservedPoints + 10000 * 100 ≤ desk.float.work.balance :=
  ⟨accepted_of_passes rfl (by decide +kernel), accepted_of_passes rfl (by decide +kernel), by decide +kernel,
    by decide +kernel, by decide +kernel, by decide +kernel, accepted_of_passes rfl (by decide +kernel), by decide +kernel⟩

/-- Slot 0 with an admin operation in hand. -/
def settling (b : Option EntryBody) (ph : AdminPhase) : State :=
  withSlot desk 0 (fun sl => { sl with state := .working, inHand := some (0x17, 1), admin := some ⟨b, ph⟩ })

/-- SETTLE of the last number with no open vend, and with the open vend 1 below it; slot 0 in its header write. -/
theorem test_meets_SettleWritesTheMark :
    (present desk 0 (.settle h0 2)).Accepted 0 (.settle h0 2) .settle h0 ∧ desk.openVends = [] ∧
      (present leased 0 (.settle h0 2)).Accepted 0 (.settle h0 2) .settle h0 ∧ leased.openVends = [1] ∧
      ({ (settling none .header).journal with header := some ⟨2, 0, some 1⟩ } : Journal).header = some ⟨2, 0, some 1⟩ ∧
      ((settling none .header).slot 0).inHand = some (0x17, 1) ∧
      ((settling none .header).slot 0).pendingChange = none :=
  ⟨accepted_of_passes rfl (by decide +kernel), by decide +kernel, accepted_of_passes rfl (by decide +kernel),
    by decide +kernel, rfl, by decide +kernel, by decide +kernel⟩

/-! ### The journal -/

/-- A queue with one entry and a store that is idle. -/
def queued (j : Journal) (b : EntryBody) : Journal := { j with queue := [⟨.slot 2, 2, true, b⟩], reserved := 1 }

/-- A store whose page 0 holds 31 void entry slots and entry 32, and whose other pages are worn. -/
def fullStore (mark : Nat) : Journal :=
  { Journal.delivered with
    store := (List.range 31).map (fun i => (i, .void)) ++ [(31, .written (Entry.sealed 32 0 0 (.start .cold 0 0)))]
    worn := (List.range 127).map (· + 1), mark := mark, last := 32, tail := some 0 }

theorem test_meets_EntrySlotAtHandIsBlank :
    (desk.journal.slotAtHand = some 2 ∧ Journal.delivered.slotAtHand = some 0) ∧
      (fullStore 32).slotAtHand = none ∧ (fullStore 32).oldestSettled = some 0 ∧ (fullStore 31).oldestSettled = none ∧
      ({ fullStore 31 with worn := (List.range 125).map (· + 1) } : Journal).slotAtHand = some (126 * 32) := by
  decide +kernel

/-- The part with a journal. -/
def onJournal (j : Journal) : State := { desk with journal := j }

theorem test_meets_JournalBeginsItsNextOperation :
    (desk.journal.mode = .normal ∧ desk.journal.op = .idle ∧ desk.paused = false ∧ desk.applyHold = false) ∧
      ((queued desk.journal (.shiftClose Till.zero)).slotAtHand = some 2 ∧ desk.journal.last ≠ 4294967295) ∧
      ((fullStore 32).slotAtHand = none ∧ (fullStore 32).oldestSettled = some 0 ∧ (fullStore 32).erasedPages < 4) ∧
      (fullStore 31).slotAtHand = none ∧ (fullStore 31).oldestSettled = none ∧ desk.journal.oldestSettled = none := by
  decide +kernel

/-- Slot 2's unit in APPLYING. -/
def applying : State :=
  { vending .working with
    engine := ⟨2, some ⟨2, 1, 11, .applying, false⟩⟩
    meters := ⟨[⟨meter, some 2⟩], [⟨.unit ⟨0, .credit, 11, 3⟩, 99999999999, .token .credit 11 1 3, 3⟩]⟩ }

/-- Slot 2's vend before its number, its VEND_OPEN queued; an unbind of slot 2 by slot 1 pending, slot 1's work ended. -/
def opening (queued : Bool) : State :=
  withSlot (vending .working) 2 (fun sl => { sl with
    vend := some { vend with number := none, phase := .opening, openQueued := queued, issued := 0 } })

def unbinding (s : State) (ph : AdminPhase) : State :=
  withSlot (withSlot s 1 (fun sl => { sl with
      state := .working, inHand := some (0x0A, 1), admin := some ⟨some (.unbind 2), ph⟩ }))
    2 (fun sl => { sl with pendingChange := some (.unbindBy 1) })

/-- Slot 1 unbinds itself. -/
def unbindingItself : State :=
  withSlot desk 1 (fun sl => { sl with
    state := .working, inHand := some (0x0A, 1), admin := some ⟨some (.unbind 1), .queued⟩
    pendingChange := some (.unbindBy 1) })

theorem test_meets_FailedModeEndsEveryPromise :
    ((vending .working).engine.applying 2 = false ∧ applying.engine.applying 2 = true ∧
      (applying.slot 2).vend = some vend ∧ ((vending .working).slot 2).inHand = some (0x04, 7) ∧
      (∀ k m : SlotNo, ((vending .working).slot m).pendingChange ≠ some (.unbindBy k))) ∧
      (((opening true).slot 2).vend.map (·.number)) = some none ∧
      ((settling (some (.keyLoad 1 4)) .queued).slot 0).vend = none ∧
      ((settling (some (.keyLoad 1 4)) (.staging false)).slot 0).admin = some ⟨some (.keyLoad 1 4), .staging false⟩ ∧
      ((settling (some (.keyLoad 1 4)) .queued).slot 0).pendingChange = none ∧
      (∀ k m : SlotNo, ((settling (some (.recall 1)) .queued).slot m).pendingChange ≠ some (.unbindBy k)) ∧
      ((unbinding desk .queued).slot 1).admin = some ⟨some (.unbind 2), .queued⟩ ∧
      (∀ m : SlotNo, ((unbinding desk .queued).slot m).pendingChange = some (.unbindBy 1) → m = 2) ∧
      ((unbindingItself.slot 1).pendingChange = some (.unbindBy 1) ∧
        ∀ m : SlotNo, (unbindingItself.slot m).pendingChange = some (.unbindBy 1) → m = 1) ∧
      ((unbinding desk .waiting).slot 2).pendingChange = some (.unbindBy 1) ∧
      ((unbinding desk .waiting).slot 1).pendingChange = none ∧
      ((unbinding desk .waiting).slot 1).inHand = some (0x0A, 1) ∧ desk.journal.fail.mode = .failed := by decide +kernel

/-- A journal with an operation under way. -/
def operating (j : Journal) (op : StoreOp) : Journal := { j with op := op }

theorem test_meets_ProgramCommitsItsEntry :
    (operating (queued desk.journal (.shiftClose Till.zero)) (.program 2 3 1000)).op = .program 2 3 1000 ∧
      (operating (queued desk.journal (.shiftClose Till.zero)) (.program 2 3 1000)).queue =
        ⟨.slot 2, 2, true, .shiftClose Till.zero⟩ :: [] := by decide +kernel

/-- R113, R188: an entry whose last two bytes are not its check is half-written. -/
theorem test_wrong_check_is_halfWritten :
    (SlotContent.written (Entry.sealed 1 0 0 (.start .cold 0 0))).judged = .written (Entry.sealed 1 0 0 (.start .cold 0 0)) ∧
      (SlotContent.written
        { Entry.sealed 1 0 0 (.start .cold 0 0) with check := (Entry.sealed 1 0 0 (.start .cold 0 0)).check + 1 }).judged =
          .halfWritten ∧
      (entryBytes 1 0 0 (.start .cold 0 0)).length = 62 := by decide +kernel

/-- A store with one blank entry slot left, the last of page 0. -/
def lastSlot : Journal :=
  { fullStore 0 with store := (List.range 30).map (fun i => (i, .void)) ++
      [(30, .written (Entry.sealed 32 0 0 (.start .cold 0 0)))] }

/-- The failed program with R121 just kept and just broken; each failure count; a scan that is voiding. -/
theorem test_meets_FailedProgramIsVoided :
    ((queued lastSlot (.shiftClose Till.zero)).obtainable = 1 ∧ (queued lastSlot (.shiftClose Till.zero)).reserved = 1) ∧
      Journal.obtainable { lastSlot.put 31 .halfWritten with op := .idle } = 0 ∧ lastSlot.reserved = 0 ∧
      ({ desk.journal.fail with op := .voidMark 2 } : Journal).mode = .failed ∧
      ({ desk.journal with failedOnce := true } : Journal).mode = .normal ∧
      (operating desk.journal (.voidMark 2)).op = .voidMark 2 ∧ desk.journal.failedOnce = false ∧
      (desk.setStage (.voiding [2])).watch.scan.stage = .voiding (2 :: []) ∧
      desk.watch.scan.stage = .ended := by decide +kernel

/-- A worn mark with R121 just kept (no page left, nothing reserved) and broken by one; a scan that is erasing. -/
theorem test_meets_ErasesBlankOrWearTheirPage :
    (operating desk.journal (.erase 127)).op = .erase 127 ∧ (operating (fullStore 32) (.wornMark 0)).op = .wornMark 0 ∧
      ({ (operating (fullStore 32) (.wornMark 0)).wearPage 0 with op := .idle } : Journal).obtainable = 0 ∧
      (fullStore 32).reserved = 0 ∧ (queued (fullStore 32) (.shiftClose Till.zero)).reserved = 1 ∧
      (desk.setStage (.erasing [0])).watch.scan.stage = .erasing (0 :: []) ∧ desk.watch.scan.stage = .ended := by
  decide +kernel

/-! ### The engine and the commits -/

theorem test_meets_EngineGrantsInTurn :
    ((searchOrder (vending .working).engine.position).find? (vending .working).hasWork = some 2 ∧
      (vending .working).watch.part = .run ∧ (vending .working).engine.unit = none ∧
      ((vending .working).slot 2).vend = some vend ∧ vend.phase = .issuing ∧
      vend.plan.units[vend.issued]? = some ⟨.credit, 1, 100000⟩ ∧
      (vending .working).meters.lookup vend.meter = some ⟨meter, none⟩) ∧
      (withSlot desk 2 (fun sl => { sl with
        state := .working, vend := some { vend with phase := .opening, openQueued := false } })).hasWork 2 = true ∧
      (∀ k : SlotNo, desk.hasWork k = false) ∧
      ∀ k : SlotNo, (((vending .working).slot k).vend.all (fun v =>
        ((vending .working).meters.lookup v.meter).isSome)) = true := by
  decide +kernel

theorem test_meets_TokenRecordAndItsCheck :
    (65535 < 2 ^ 16 ∧ 4294967295 < 2 ^ 32 ∧ 4095 < 2 ^ 12 ∧ 15 < 2 ^ 4) ∧
      nibbleSum 18 (plainRecord .rekeyB 65535 4294967295 4095 15).toNat % 16 = 0 := by decide +kernel

/-- Slot 2's unit in FORMING, discarded or not. -/
def forming (discarded : Bool) : State :=
  { vending .working with
    engine := ⟨2, some ⟨2, 1, 11, .forming, discarded⟩⟩
    former := { desk.former with transform := some ⟨0, 0, 3⟩ } }

theorem test_meets_TransformQueuesTheToken :
    (forming false).former.transform = some ⟨0, 0, 3⟩ ∧ (forming false).engine.unit = some ⟨2, 1, 11, .forming, false⟩ ∧
      ((forming false).slot 2).vend = some vend ∧ vend.plan.units[1]? = some ⟨.credit, 1, 100000⟩ ∧
      (forming true).engine.unit = some ⟨2, 1, 11, .forming, true⟩ := by decide +kernel

/-- A unit under the current revision and under the previous one; meter keys of two meters; two keys. -/
theorem test_meets_TransformOfAUnit :
    (desk.former.entry meter.group).current = some ⟨3, 5⟩ ∧ meter.revision = 3 ∧
      (KeyEntry.mk (some ⟨4, 7⟩) (some ⟨3, 5⟩) none 0 false).previous = some ⟨3, 5⟩ ∧ (3 : Nat) ≠ 4 ∧
      (0 : BitVec 64) ≠ 1 ∧ (99999999999 : Nat) ≤ 99999999999 ∧ (1 : Nat) ≠ 99999999999 := by decide +kernel

/-- For the commits of VEND_OPEN, TOKEN and VEND_END: slot 2 has its vend, its request in hand and no pending change. -/
theorem test_meets_RecordWritingEntriesCommit :
    ((vending .working).slot 2).vend = some vend ∧ ((vending .working).slot 2).inHand = some (0x04, 7) ∧
      ((vending .working).slot 2).pendingChange = none ∧ (vending .working).watch.part ≠ .starting ∧
      (forming false).engine.unit = some ⟨2, 1, 11, .forming, false⟩ ∧ ((forming false).slot 2).vend = some vend := by
  decide +kernel

/-- For the GRANT's commit: the expiry above the seconds, and equal to them. -/
theorem test_meets_FloatEntriesCommit :
    (true = true ↔ desk.clock.state = .running ∧ desk.clock.seconds < 1001) ∧
      (false = true ↔ desk.clock.state = .running ∧ desk.clock.seconds < 1000) := by decide +kernel

/-- For BIND, UNBIND and SHIFT_CLOSE: slot 1's request in hand, its target another slot; a pending unbind of slot 2. -/
theorem test_meets_SlotEntriesCommit :
    ((withSlot desk 1 (fun sl => { sl with inHand := some (0x09, 1) })).slot 1).inHand = some (0x09, 1) ∧
      (desk.slot 1).pendingChange = none ∧ (3 : SlotNo) ≠ 1 ∧ (1 : SlotNo) ≠ 2 ∧ desk.journal.mode = .normal ∧
      ((withSlot desk 2 (fun sl => { sl with pendingChange := some (.unbindBy 1) })).slot 2).pendingChange =
        some (.unbindBy 1) := by decide +kernel

/-- Slot 2 with a vend, and a record write owed to it. -/
def owing (v : Vend) (o : WriteOwner) (n : Nat) : State :=
  { withSlot applying 2 (fun sl => { sl with vend := some v }) with
    meters := ⟨[⟨meter, some 2⟩], [⟨o, 99999999999, .opening false 5 0 0, n⟩]⟩ }

theorem test_meets_VendRecordWritesComplete_open :
    (owing vend (.opening 2) 1).meters.writes = ⟨.opening 2, 99999999999, .opening false 5 0 0, 1⟩ :: [] ∧
      ((owing vend (.opening 2) 1).slot 2).vend = some vend ∧ vend.number = some 1 ∧ vend.pendingEnding = none ∧
      vend.plan.units ≠ [] ∧ ({ emptyPlan with units := [] }).units = [] := by decide +kernel

/-- A vend with three tokens in its batch and units left after the next. -/
def filling : Vend :=
  { vend with batch := List.replicate 3 ⟨0, .credit, 1, 2⟩, issued := 0 }

theorem test_meets_VendRecordWritesComplete_unit :
    applying.meters.writes = ⟨.unit ⟨0, .credit, 11, 3⟩, 99999999999, .token .credit 11 1 3, 3⟩ :: [] ∧
      applying.engine.unit = some ⟨2, 1, 11, .applying, false⟩ ∧ (applying.slot 2).vend = some vend ∧
      applying.journal.mode = .normal ∧ (applying.slot 2).inHand = some (0x04, 7) ∧
      (applying.slot 2).pendingChange = none ∧ vend.issued + 1 = vend.plan.units.length ∧
      ((owing filling (.unit ⟨0, .credit, 11, 3⟩) 3).slot 2).vend = some filling ∧
      filling.issued + 1 ≠ filling.plan.units.length ∧ filling.pendingEnding = none ∧
      filling.batch.length + 1 = 4 := by decide +kernel

theorem test_meets_MeterFloatAndSettingsWritesComplete :
    (owing vend (.admin 0) 3).meters.writes = ⟨.admin 0, 99999999999, .opening false 5 0 0, 3⟩ :: [] ∧
      ((settling none .writing).slot 0).inHand = some (0x17, 1) ∧
      ((settling none .writing).slot 0).pendingChange = none ∧
      (desk.oweFloatWrite desk.float.nv .nothing).float.writes = ⟨desk.float.nv, .nothing⟩ :: [] ∧
      ({ desk.clock with settingsWrite := some ⟨5, 3, some 0, .live, true⟩ } : Clock).settingsWrite =
        some ⟨5, 3, some 0, .live, true⟩ ∧
      (owing vend .replay 3).meters.writes = ⟨.replay, 99999999999, .opening false 5 0 0, 3⟩ :: [] ∧
      ({ desk.clock with settingsWrite := some ⟨5, 3, none, .frozen, false⟩ } : Clock).settingsWrite =
        some ⟨5, 3, none, .frozen, false⟩ := by decide +kernel

theorem test_meets_ScheduleAndKeyWritesComplete :
    ((settling (some (.tariffLoad tariffBody)) .writing).slot 0).writing = true ∧
      ((settling (some (.keyLoad 1 4)) (.staging false)).slot 0).admin = some ⟨some (.keyLoad 1 4), .staging false⟩ ∧
      ((settling (some (.keyLoad 1 4)) (.staging true)).slot 0).admin = some ⟨some (.keyLoad 1 4), .staging true⟩ ∧
      ((settling (some (.keyLoad 1 4)) (.staging true)).slot 0).inHand = some (0x17, 1) ∧
      (desk.modKey 1 (fun e => { e with stage := some ⟨4, 9⟩ })).former.keys[(1 : Fin 4)].stage = some ⟨4, 9⟩ ∧
      (desk.slot 0).writing = false := by
  decide +kernel

theorem test_meets_RecordChangesByKind :
    (∀ r, RecordChange.create meter = .create r → r.number = 99999999999) ∧ (7 : Nat) ≠ 99999999999 :=
  ⟨fun r h => by cases h; rfl, by decide⟩

theorem test_meets_ResetsClearVolatileState :
    desk.watch.supply = true ∧ ({ desk.watch with supply := false } : Watch).supply = false := by decide +kernel

/-! ### Supply, scan, clock, prices -/

/-- Slot 2's vend in CLOSING. -/
def ending : State := withSlot (vending .working) 2 (fun sl => { sl with vend := some (vend.closed .partly (some .unbound)) })

theorem test_meets_WarningsAndHoldup :
    (vending .working).Running ∧ (vending .working).journal.last ≠ 4294967295 ∧ (vending .working).IssuingAlone 2 vend ∧
      ¬ (inPart desk .holdup).Running ∧ (inPart desk .starting).watch.part = .starting ∧
      (∀ k t : SlotNo, ((vending .working).slot k).admin ≠ some ⟨some (.unbind t), .waiting⟩) :=
  ⟨rfl, by decide, ⟨by decide +kernel, rfl, rfl, rfl⟩, by simp [State.Running, inPart], rfl, by decide +kernel⟩

/-- A KEY_LOAD in its stage write, and an UNBIND that waits for a vend in CLOSING. -/
theorem test_meets_WarningsAndHoldup_waiting :
    ((settling (some (.keyLoad 1 4)) (.staging false)).watch.part = .run ∧
      ((settling (some (.keyLoad 1 4)) (.staging false)).slot 0).admin = some ⟨some (.keyLoad 1 4), .staging false⟩ ∧
      (∀ k t : SlotNo, ((settling (some (.keyLoad 1 4)) (.staging false)).slot k).admin ≠
        some ⟨some (.unbind t), .waiting⟩) ∧
      ∀ m : SlotNo, ((settling (some (.keyLoad 1 4)) (.staging false)).slot m).pendingChange ≠ some (.unbindBy 0)) ∧
      (unbinding ending .waiting).watch.part = .run ∧ (unbinding ending .waiting).journal.mode = .normal ∧
      ((unbinding ending .waiting).slot 1).admin = some ⟨some (.unbind 2), .waiting⟩ ∧
      ((unbinding ending .waiting).slot 1).vend = none ∧ ((unbinding ending .waiting).slot 1).pendingChange = none ∧
      ((unbinding ending .waiting).slot 1).inHand = some (0x0A, 1) ∧
      (((unbinding ending .waiting).slot 2).vend.map (·.phase)) = some .closing ∧
      ∀ m : SlotNo, ((unbinding ending .waiting).slot m).pendingChange = some (.unbindBy 1) → m = 2 := by
  decide +kernel

/-- A half-written entry slot in the trail, and a part-erased page. -/
theorem test_meets_RecoveryScanBegins :
    ({ desk.journal with store := desk.journal.store ++ [(2, .halfWritten)] } : Journal).toVoid = [2] ∧
      ({ desk.journal with store := desk.journal.store ++ [(96, .halfWritten)] } : Journal).partErased = [3] ∧
      desk.journal.toVoid = [] ∧ desk.journal.partErased = [] ∧ State.reset.watch.scan.stage = .notBegun ∧
      State.reset.watch.supply = true := by decide +kernel

/-- The trail of a full page 0 whose last three slots are torn goes on to page 1, and is left when page 1 holds an entry
after its torn slots; a page whose slots are partly blank is part-erased. -/
def torn (more : List (Nat × SlotContent)) : Journal :=
  { Journal.delivered with
    store := (List.range 28).map (fun i => (i, .void)) ++ [(28, .written (Entry.sealed 29 0 0 (.start .cold 0 0))),
      (29, .void), (30, .halfWritten), (31, .void), (32, .halfWritten)] ++ more }

theorem test_meets_TrailAndPartErasedPages :
    Rising ((torn []).store.map (·.1)) ∧ (torn []).highest = some (28, Entry.sealed 29 0 0 (.start .cold 0 0)) ∧
      (torn []).trail = [29, 30, 31, 32] ∧ (torn []).scanTail = some 1 ∧ (torn []).toVoid = [30, 32] ∧
      (torn [(40, .void)]).trail = [29, 30, 31] ∧ (torn [(40, .void)]).scanTail = some 0 ∧
      (torn [(40, .void)]).partErased = [1] ∧ Journal.delivered.highest = none := by decide +kernel

/-- A cold scan with nothing torn; a group with a stage; an open vend with one TOKEN, and none open. -/
theorem test_meets_ScanStepsThreeToSix :
    ((torn []).put 30 .void).toVoid = [32] ∧ desk.journal.toVoid = [] ∧ desk.journal.partErased = [] ∧
      (desk.modKey 1 (fun e => { e with stage := some ⟨4, 9⟩ })).former.staged = some 1 ∧ desk.former.staged = none ∧
      (Journal.openVend? { desk.journal with store := [(0, .written (Entry.sealed 1 2 0 (.vendOpen vend.openEntry))),
        (1, .written (Entry.sealed 2 2 0 (.token tokenEntry)))] }).map (·.1.number) = some 1 ∧
      desk.journal.openVend? = none := by decide +kernel

/-- Entries that cause a write, and those that cause none: a stage of another revision, a number already applied. -/
theorem test_meets_ReplayAndScanEntries :
    (desk.meters.lookup 99999999999 = some ⟨meter, none⟩ ∧ meter.applied < 2 ∧ desk.meters.lookup 7 = none) ∧
      ((desk.modKey 1 (fun e => { e with stage := some ⟨4, 9⟩ })).former.entry 1).stage = some ⟨4, 9⟩ ∧
      (desk.former.entry 1).stage = none ∧ (desk.former.entry 1).applied < 2 ∧ desk.clock.settingsApplied < 2 ∧
      desk.clock.taken = 1 ∧ desk.watch.startKind = .cold ∧
      (inPart desk .starting).watch.part = .starting ∧ desk.clock.state = .running := by decide +kernel

theorem test_meets_ClockCommitAndEvents :
    desk.clock.state = .running ∧ State.reset.clock.state = .unset ∧
      (desk.setChannel 0 (some 1000)).clock.channels[(0 : Fin 8)] = some 1000 ∧ desk.clock.seconds = 1000 ∧
      (desk.setChannel 0 (some 1001)).clock.channels[(0 : Fin 8)] = some 1001 := by decide +kernel

theorem test_meets_PlanStatements :
    exampleMeter.recovery ≤ 50 ∧ 100 ≤ exampleSchedule.cap ∧ (∀ b ∈ exampleSchedule.steps, 1 ≤ b.price) ∧
      1 ≤ exampleSchedule.lastPrice ∧ (creditPlan exampleSchedule exampleMeter 40000 412 true).toOption.isSome = true ∧
      (walk exampleSchedule.steps exampleSchedule.lastPrice 499 1437) = (1, 0) := by decide +kernel

theorem test_meets_RekeyNeedByKeyTable :
    rekeyNeed (desk.former.entry 1) 3 = some false ∧ rekeyNeed (desk.former.entry 1) 2 = none ∧
      rekeyNeed (desk.former.entry 0) 3 = none ∧ rekeyNeed ⟨some ⟨0, 1⟩, some ⟨15, 2⟩, none, 0, false⟩ 15 = some true := by
  decide +kernel

/-! ### Parts that agree with themselves -/

/-- Slot 2's unit in FORMING, its energy value reserved, channel 8 at the expiry time. -/
def selling : State :=
  { forming false with
    float := { desk.float with reservations := [⟨2, 200000⟩] }
    clock := desk.clock.setChannel 0 (some 2000) }

/-- The scan of the delivered part with its START under program. -/
def scanning : State :=
  { State.reset with
    watch := { State.reset.watch with resetLine := false, scan := ⟨.starting, 0, 0⟩ }
    journal := { Journal.delivered with
      queue := [⟨.slot 0, 0, false, .start .cold 0 0⟩], op := .program 0 1 0, tail := some 0 } }

theorem selling_vend (k : SlotNo) : (selling.slot k).vend = if k = 2 then some vend else none := by
  revert k; decide +kernel

theorem selling_admin (k : SlotNo) : (selling.slot k).admin = none := by revert k; decide +kernel

theorem selling_pendingChange (k : SlotNo) : (selling.slot k).pendingChange = none := by revert k; decide +kernel

theorem selling_vendCoherent : selling.VendCoherent 2 vend where
  desk     := by decide
  alone    := selling_admin 2
  state    := by decide +kernel
  waiting  := fun h => by cases h
  opened   := fun _ h => by cases h
  issuing  := fun _ => by decide +kernel
  closing  := fun h => by cases h
  failed   := fun h => by cases h
  reserved := by decide +kernel

theorem test_meets_StepKeepsCoherence : selling.Coherent where
  starting    := fun h => by cases h
  run         := fun _ =>
    { vends   := fun k v h => by
        rw [selling_vend] at h
        split at h <;> cases h
        subst k
        exact selling_vendCoherent
      admins  := fun k h =>
        { unit    := by revert k; decide +kernel
          opening := by revert k; decide +kernel
          idle    := fun _ => by revert k; decide +kernel
          busy    := fun a ha => by rw [selling_admin] at ha; cases ha }
      pending := fun k => by simp only [State.PendingCoherent, selling_pendingChange]
      quiet   := by decide +kernel
      owed    := by decide +kernel
      header  := by decide +kernel
      stage   := fun _ _ h => by cases h
      live    := ⟨fun _ h => (by cases h), fun _ h => (by cases h), by decide +kernel, rfl⟩
      queue   := fun _ h => by cases h
      failed  := fun h => by cases h
      unit    := ⟨⟨vend, by decide +kernel, rfl⟩, by decide +kernel, by decide +kernel, by decide +kernel, rfl⟩ }
  permissions := by decide +kernel
  floatLaw    := (by decide +kernel : selling.float.reservedPoints ≤ selling.float.work.balance)

theorem test_meets_StepKeepsChannelEight :
    selling.StartingAlone ∧ selling.SlotZeroAdmin ∧ selling.ChannelEight :=
  ⟨fun h => (by cases h),
    ⟨by decide +kernel, by decide +kernel, fun _ h => (by cases h), fun _ _ h => (by rw [selling_admin] at h; cases h)⟩,
    (by decide +kernel : selling.clock.channels[(0 : Fin 8)] = some 2000)⟩

theorem test_meets_StepKeepsReservedWithinObtainable :
    selling.Canonical ∧ selling.StartingAlone ∧ selling.PromisesKept ∧ selling.SettleOrdered ∧ selling.openVends = [1] :=
  ⟨by decide +kernel, fun h => (by cases h),
    ⟨fun _ _ _ h => (by cases h), fun _ _ h => (by cases h), fun _ _ h => (by cases h), fun _ => by decide +kernel⟩,
    ⟨by decide, fun _ h => (by cases h), fun _ _ _ h => (by cases h), fun v hv => by
      have hl : selling.openVends = [1] := by decide +kernel
      rw [hl, List.mem_singleton] at hv
      subst hv
      exact ⟨by decide, by decide, fun _ h => (by cases h)⟩⟩,
    by decide +kernel⟩

theorem test_meets_ScanRunsAlone : scanning.StartingAlone := fun _ =>
  { slots   := by decide +kernel
    unit    := ⟨rfl, rfl⟩
    claims  := ⟨rfl, rfl, rfl⟩
    queue   := ⟨by decide, fun e h => by
      simp only [scanning, List.mem_singleton] at h
      subst h
      exact ⟨rfl, Or.inr ⟨_, _, _, rfl⟩⟩⟩
    placing := Or.inl (Or.inr rfl)
    op      := Or.inl (Or.inr rfl)
    owners  := ⟨fun _ h => (by cases h), fun _ h => (by cases h), fun _ h => (by cases h), fun _ _ h => (by cases h)⟩
    writes  := Or.inr ⟨rfl, rfl, rfl, rfl⟩
    frozen  := Or.inr rfl }

/-- Each stage of a vend: OPENING not queued, queued and withdrawable, under program; FORMING; APPLYING; CLOSING. -/
theorem test_meets_OvertakingActsByStage :
    (((opening false).slot 2).vend.map (·.openQueued) = some false ∧
      ({ opening true with journal := queued desk.journal (.vendOpen vend.openEntry) } : State).journal.openWithdrawable 2 =
        true ∧
      (operating (queued desk.journal (.vendOpen vend.openEntry)) (.program 2 3 0)).openWithdrawable 2 = false) ∧
      ((forming false).engine.unit = some ⟨2, 1, 11, .forming, false⟩ ∧
        applying.engine.unit = some ⟨2, 1, 11, .applying, false⟩ ∧ (applying.slot 2).vend = some vend) ∧
      ((ending.slot 2).vend.map (·.phase)) = some .closing ∧
      ((opening true).slot 2).inHand = some (0x04, 7) ∧ ((opening true).slot 2).pendingChange = none := by decide +kernel

/-! ### From reset -/

/-- The delivered part's scan begins the program of its START. -/
theorem test_scan_from_reset :
    (match exec .recoveryScanBegin State.reset with
      | .next t => t.journal.op == .program 0 1 0 && t.journal.queue.length == 1
      | _ => false) = true := by decide +kernel

/-- A tick on the delivered part changes nothing of its clock. -/
theorem test_tick_unset : exec .secondTick State.reset = .next State.reset := rfl

end Sys2Proof.Tests
end

section
/-! PROOFS. Pricing by position (R35), the block walk (R45) and the figures of a CREDIT plan (R46). Each block of a
schedule is met in one of two ways: the run or the walk ends inside it, or goes past its threshold. -/

namespace Sys2Proof.Machine

/-! ### The price at a position -/

/-- `Schedule.priceAt` by recursion on the blocks, so that it follows `walk` and `runCost` block by block. -/
def blockPrice : List BlockStep → Nat → Nat → Nat
  | [], last, _ => last
  | b :: rest, last, t => if t < b.threshold then b.price else blockPrice rest last t

theorem blockPrice_below {b : BlockStep} {t : Nat} (h : t < b.threshold) (rest : List BlockStep) (last : Nat) :
    blockPrice (b :: rest) last t = b.price := if_pos h

theorem blockPrice_past {b : BlockStep} {t : Nat} (h : b.threshold ≤ t) (rest : List BlockStep) (last : Nat) :
    blockPrice (b :: rest) last t = blockPrice rest last t := if_neg (Nat.not_lt.mpr h)

/-- Blocks whose thresholds are not above the position do not price it. -/
theorem blockPrice_append {before : List BlockStep} {t : Nat} (h : ∀ x ∈ before, x.threshold ≤ t)
    (rest : List BlockStep) (last : Nat) : blockPrice (before ++ rest) last t = blockPrice rest last t := by
  induction before with
  | nil => rfl
  | cons b before ih =>
    obtain ⟨hb, hbefore⟩ := List.forall_mem_cons.mp h
    rw [List.cons_append, blockPrice_past hb, ih hbefore]

theorem Schedule.priceAt_eq_blockPrice (sch : Schedule) (t : Nat) :
    sch.priceAt t = blockPrice sch.steps sch.lastPrice t := by
  unfold Schedule.priceAt
  induction sch.steps with
  | nil => rfl
  | cons b rest ih =>
    by_cases h : t < b.threshold
    · rw [blockPrice_below h, List.find?_cons_of_pos (by simpa using h)]
      rfl
    · rw [blockPrice_past (Nat.not_lt.mp h), List.find?_cons_of_neg (by simpa using h), ih]

/-! ### The cost of a run -/

@[simp] theorem runCost_zero (steps : List BlockStep) (last pos : Nat) : runCost steps last pos 0 = 0 := by
  induction steps generalizing pos with
  | nil => simp [runCost]
  | cons b rest ih => simp [runCost, ih]

/-- A run that does not pass the first block's threshold. -/
theorem runCost_within {b : BlockStep} {pos n : Nat} (h : n ≤ b.threshold - pos) (rest : List BlockStep) (last : Nat) :
    runCost (b :: rest) last pos n = n * b.price := by
  simp [runCost, Nat.min_eq_left h]

/-- A run that reaches the first block's threshold; one that starts past it takes nothing from the block. -/
theorem runCost_past {b : BlockStep} {pos n : Nat} (h : b.threshold - pos ≤ n) (rest : List BlockStep) (last : Nat) :
    runCost (b :: rest) last pos n =
      (b.threshold - pos) * b.price + runCost rest last (pos + (b.threshold - pos)) (n - (b.threshold - pos)) := by
  simp [runCost, Nat.min_eq_right h]

/-- One tenth more costs the price of its position. -/
theorem runCost_succ (steps : List BlockStep) (last pos n : Nat) :
    runCost steps last pos (n + 1) = runCost steps last pos n + blockPrice steps last (pos + n) := by
  induction steps generalizing pos n with
  | nil => exact Nat.succ_mul n last
  | cons b rest ih =>
    by_cases hin : pos + n < b.threshold
    · rw [runCost_within (by omega), runCost_within (by omega), blockPrice_below hin, Nat.succ_mul]
    · have hpast : b.threshold - pos ≤ n := by omega
      have hlast : pos + (b.threshold - pos) + (n - (b.threshold - pos)) = pos + n := by omega
      rw [runCost_past (Nat.le_succ_of_le hpast), runCost_past hpast, blockPrice_past (Nat.not_lt.mp hin),
        Nat.succ_sub hpast, ih, hlast, Nat.add_assoc]

/-- The model's cost of a run is the sum of the prices of its tenths (R35). -/
theorem Schedule.runCost_eq_cost (sch : Schedule) (pos n : Nat) :
    runCost sch.steps sch.lastPrice pos n = sch.cost pos n := by
  induction n with
  | zero => exact runCost_zero _ _ _
  | succ n ih =>
    rw [runCost_succ, ih, ← sch.priceAt_eq_blockPrice]
    simp [Schedule.cost, List.range_succ]

/-! ### The block walk -/

/-- A budget that fills the first block, or finds it behind the position, goes on to the next block. -/
theorem walk_past {b : BlockStep} {pos budget : Nat} (h : b.threshold - pos ≤ budget / b.price)
    (rest : List BlockStep) (last : Nat) :
    walk (b :: rest) last pos budget =
      (b.threshold - pos +
          (walk rest last (pos + (b.threshold - pos)) (budget - (b.threshold - pos) * b.price)).1,
        (walk rest last (pos + (b.threshold - pos)) (budget - (b.threshold - pos) * b.price)).2) := by
  by_cases hpos : b.threshold ≤ pos
  · simp [walk, hpos, Nat.sub_eq_zero_of_le hpos]
  · simp [walk, hpos, Nat.min_eq_left h]

/-- A budget that does not fill the first block stops there with less than its price. -/
theorem walk_stops {b : BlockStep} {pos budget : Nat} (h : budget / b.price < b.threshold - pos)
    (rest : List BlockStep) (last : Nat) :
    walk (b :: rest) last pos budget = (budget / b.price, budget % b.price) := by
  have hpos : ¬ b.threshold ≤ pos := Nat.not_le.mpr (Nat.lt_of_sub_pos (Nat.zero_lt_of_lt h))
  simp [walk, hpos, Nat.min_eq_right h.le, h.ne, Nat.mod_eq_sub_div_mul]

theorem walk_lastBlock (last pos budget : Nat) : walk [] last pos budget = (budget / last, budget % last) := by
  rw [walk, Nat.mod_eq_sub_div_mul]

/-- What the walk bought and what it left make up the budget. -/
theorem walk_balance (steps : List BlockStep) (last pos budget : Nat) :
    runCost steps last pos (walk steps last pos budget).1 + (walk steps last pos budget).2 = budget := by
  induction steps generalizing pos budget with
  | nil => rw [walk_lastBlock]; exact Nat.div_add_mod' budget last
  | cons b rest ih =>
    by_cases hfill : b.threshold - pos ≤ budget / b.price
    · have hpaid : (b.threshold - pos) * b.price ≤ budget := Nat.mul_le_of_le_div _ _ _ hfill
      rw [walk_past hfill, runCost_past (Nat.le_add_right _ _), Nat.add_sub_cancel_left, Nat.add_assoc, ih,
        Nat.add_sub_cancel' hpaid]
    · have hstop := Nat.not_le.mp hfill
      rw [walk_stops hstop, runCost_within hstop.le]
      exact Nat.div_add_mod' budget b.price

/-- The walk stops with less left than the price of the next tenth. -/
theorem walk_left_lt {steps : List BlockStep} {last : Nat} (hsteps : ∀ b ∈ steps, 1 ≤ b.price) (hlast : 1 ≤ last)
    (pos budget : Nat) :
    (walk steps last pos budget).2 < blockPrice steps last (pos + (walk steps last pos budget).1) := by
  induction steps generalizing pos budget with
  | nil => rw [walk_lastBlock]; exact Nat.mod_lt _ hlast
  | cons b rest ih =>
    obtain ⟨hb, hrest⟩ := List.forall_mem_cons.mp hsteps
    by_cases hfill : b.threshold - pos ≤ budget / b.price
    · rw [walk_past hfill, ← Nat.add_assoc, blockPrice_past (by omega)]
      exact ih hrest _ _
    · have hstop := Nat.not_le.mp hfill
      rw [walk_stops hstop, blockPrice_below (Nat.add_lt_of_lt_sub' hstop)]
      exact Nat.mod_lt _ hb

/-! ### The figures of a CREDIT plan -/

theorem MeterRecord.rolledOver_monthTenths (r : MeterRecord) (month : Nat) :
    (r.rolledOver month).monthTenths = if r.monthStamp = month then r.monthTenths else 0 := by
  unfold MeterRecord.rolledOver
  split <;> rfl

@[simp] theorem MeterRecord.rolledOver_recovery (r : MeterRecord) (month : Nat) :
    (r.rolledOver month).recovery = r.recovery := by
  unfold MeterRecord.rolledOver
  split <;> rfl

theorem creditFigures_budget (sch : Schedule) (r : MeterRecord) (tender : Nat) :
    (creditFigures sch r tender).budget =
      (tender - (creditFigures sch r tender).fixed - (creditFigures sch r tender).arrears) * 100 := rfl

/-- The energy's cost and the remaining points make up the budget (R45). -/
theorem creditFigures_balance (sch : Schedule) (r : MeterRecord) (tender : Nat) :
    sch.cost r.monthTenths (creditFigures sch r tender).tenths + (creditFigures sch r tender).left =
      (creditFigures sch r tender).budget := by
  rw [← sch.runCost_eq_cost]
  exact walk_balance _ _ _ _

/-- The charges are paid out of the tender: the arrears take no more than what the fixed charge leaves (R43, R44). -/
theorem creditFigures_charges_le {r : MeterRecord} (h : r.recovery ≤ 100) (sch : Schedule) (tender : Nat) :
    (creditFigures sch r tender).fixed + (creditFigures sch r tender).arrears ≤ tender := by
  have hfixed : (creditFigures sch r tender).fixed ≤ tender := Nat.min_le_left _ _
  have harrears : (creditFigures sch r tender).arrears ≤ tender - (creditFigures sch r tender).fixed :=
    calc (creditFigures sch r tender).arrears
      _ ≤ (tender - (creditFigures sch r tender).fixed) * r.recovery / 100 := Nat.min_le_right _ _
      _ ≤ tender - (creditFigures sch r tender).fixed := Nat.div_le_of_le_mul (by
          rw [Nat.mul_comm]
          exact Nat.mul_le_mul_right _ h)
  omega

/-- Every plan `creditPlan` makes: charges only (R47), or energy in slices (R46, R49). -/
theorem creditPlan_ok {sch : Schedule} {r : MeterRecord} {tender month : Nat} {rekey : Bool} {p : Plan}
    {f : CreditFigures} (hf : f = creditFigures sch (r.rolledOver month) tender)
    (h : creditPlan sch r tender month rekey = .ok p) :
    tender ≤ sch.maxTender ∧
      ((f.tenths = 0 ∧ ¬(f.fixed = 0 ∧ f.arrears = 0) ∧
        p = { tender := tender, fixed := f.fixed, arrears := f.arrears, change := tender - f.fixed - f.arrears,
              retained := 0, tenths := 0, value := 0, month := month, rolled := r.monthStamp != month,
              units := rekeyUnits rekey }) ∨
      (f.tenths ≠ 0 ∧ ceilDiv f.tenths sch.cap + rekeyCount rekey ≤ 16 ∧
        p = { tender := tender, fixed := f.fixed, arrears := f.arrears, change := f.left / 100,
              retained := f.left - 100 * (f.left / 100), tenths := f.tenths,
              value := f.budget - 100 * (f.left / 100), month := month, rolled := r.monthStamp != month,
              units := rekeyUnits rekey ++
                addRetained (creditUnits sch (r.rolledOver month).monthTenths (sliceSizes f.tenths sch.cap))
                  (f.left - 100 * (f.left / 100)) })) := by
  simp only [creditPlan, ← hf] at h
  split at h
  · cases h
  next hmax =>
    refine ⟨Nat.not_lt.mp hmax, ?_⟩
    split at h
    next hnone =>
      split at h
      · cases h
      next hcharged => exact .inl ⟨hnone, hcharged, (Except.ok.inj h).symm⟩
    next hsome =>
      split at h
      · cases h
      next hunits => exact .inr ⟨hsome, Nat.not_lt.mp hunits, (Except.ok.inj h).symm⟩

/-- The figures of a CREDIT plan as R46 defines them. A charges-only plan has them too: it has bought nothing, so its
remaining points are the whole budget, a multiple of 100. -/
theorem creditPlan_figures {sch : Schedule} {r : MeterRecord} {tender month : Nat} {rekey : Bool} {p : Plan}
    {f : CreditFigures} (hf : f = creditFigures sch (r.rolledOver month) tender)
    (h : creditPlan sch r tender month rekey = .ok p) :
    p.tender = tender ∧ p.fixed = f.fixed ∧ p.arrears = f.arrears ∧ p.tenths = f.tenths ∧ p.change = f.left / 100 ∧
      p.retained = f.left - 100 * p.change ∧ p.value = f.budget - 100 * p.change := by
  obtain ⟨-, ⟨hnone, -, rfl⟩ | ⟨-, -, rfl⟩⟩ := creditPlan_ok hf h
  · have hbudget : f.budget = (tender - f.fixed - f.arrears) * 100 := by rw [hf]; exact creditFigures_budget _ _ _
    have hleft : f.left = f.budget := by
      have hbalance := creditFigures_balance sch (r.rolledOver month) tender
      rw [← hf, hnone] at hbalance
      simpa [Schedule.cost] using hbalance
    refine ⟨rfl, rfl, rfl, hnone.symm, ?_, ?_, ?_⟩ <;> dsimp only <;> omega
  · exact ⟨rfl, rfl, rfl, rfl, rfl, rfl, rfl⟩

/-! ### The vend of a plan -/

/-- An admitted vend reserves its plan's value (R2). -/
@[simp] theorem State.admitVend_reservations (s : State) (k : SlotNo) (b : VendBody) (r : MeterRecord) (p : Plan) :
    (s.admitVend k b r p).float.reservations = s.float.reservations ++ [⟨k, p.value⟩] := rfl

/-- A vend whose units are all issued has no undelivered points (R95). -/
theorem Vend.undelivered_of_all_issued {v : Vend} (h : v.issued = v.plan.units.length) : v.undelivered = 0 := by
  simp [Vend.undelivered, h]

/-! ### The obligations -/

/-- Settles O57: a run's cost grows by the price of its next position, and that price is found block by block. -/
theorem costIsTheSumOfPrices : Obligations.CostIsTheSumOfPrices := by
  intro sch pos n
  refine ⟨sch.runCost_eq_cost pos n, fun before after b hsteps hbefore hb => ?_, fun hsteps => ?_⟩
  · rw [sch.priceAt_eq_blockPrice, hsteps, blockPrice_append hbefore, blockPrice_below hb]
  · rw [sch.priceAt_eq_blockPrice, ← List.append_nil sch.steps, blockPrice_append hsteps, blockPrice]

/-- Settles O58, from the balance of the block walk and the bound on the charges. -/
theorem planBalances : Obligations.PlanBalances := by
  refine ⟨fun sch pos budget n left hwalk hsteps hlast => ?_,
    fun sch r tender month rekey p pos budget left hplan hrecovery hpos hbudget hleft => ?_⟩
  · have hbalance := walk_balance sch.steps sch.lastPrice pos budget
    have hstop := walk_left_lt hsteps hlast pos budget
    rw [hwalk, sch.runCost_eq_cost] at hbalance
    rw [hwalk, ← sch.priceAt_eq_blockPrice] at hstop
    exact ⟨hbalance, hstop⟩
  · obtain ⟨f, hf⟩ : ∃ f, f = creditFigures sch (r.rolledOver month) tender := ⟨_, rfl⟩
    obtain ⟨htender, hfixed, harrears, htenths, hchange, hretained, hvalue⟩ := creditPlan_figures hf hplan
    have hfbudget : f.budget = budget := by rw [hbudget, hfixed, harrears, hf]; exact creditFigures_budget _ _ _
    have hbalance : sch.cost pos p.tenths + f.left = budget := by
      rw [← hfbudget, htenths, hpos, ← r.rolledOver_monthTenths, hf]
      exact creditFigures_balance _ _ _
    have hcharges : p.fixed + p.arrears ≤ tender := by
      rw [hfixed, harrears, hf]
      exact creditFigures_charges_le (by rw [r.rolledOver_recovery]; omega) _ _
    have hremaining : f.left = left := by omega
    rw [hremaining] at hbalance hchange hretained
    rw [hfbudget] at hvalue
    exact ⟨by omega, htender, hchange, hretained, by omega, hvalue, by omega, by omega,
      fun s k b c => s.admitVend_reservations k b c p,
      fun v hv hissued => v.undelivered_of_all_issued (by rw [hissued, hv])⟩

end Sys2Proof.Machine
end

section
/-! PROOFS. The rekey need by the key table entry, row by row of R81's table, and admission's step 8, which refuses a
meter whose key is lost. -/

namespace Sys2Proof.Machine

/-! ### The rows of R81's table -/

theorem rekeyNeed_of_no_current {e : KeyEntry} (h : e.current = none) (rev : Nat) : rekeyNeed e rev = none := by
  simp [rekeyNeed, h]

theorem rekeyNeed_of_current {e : KeyEntry} {c : KeyGen} (h : e.current = some c) :
    rekeyNeed e c.revision = some false := by
  simp [rekeyNeed, h]

/-- A revision other than the current one is judged by the previous one alone. -/
theorem rekeyNeed_of_not_current {e : KeyEntry} {c : KeyGen} {rev : Nat} (h : e.current = some c)
    (hrev : rev ≠ c.revision) :
    rekeyNeed e rev = if e.previous.map (·.revision) = some rev then some true else none := by
  simp [rekeyNeed, h, hrev.symm]

theorem rekeyNeed_of_previous {e : KeyEntry} {c p : KeyGen} (h : e.current = some c) (hp : e.previous = some p)
    (hrev : p.revision ≠ c.revision) : rekeyNeed e p.revision = some true := by
  rw [rekeyNeed_of_not_current h hrev, hp]
  exact if_pos rfl

theorem rekeyNeed_of_neither {e : KeyEntry} {c : KeyGen} {rev : Nat} (h : e.current = some c)
    (hrev : rev ≠ c.revision) (hp : ∀ p, e.previous = some p → rev ≠ p.revision) : rekeyNeed e rev = none := by
  rw [rekeyNeed_of_not_current h hrev]
  refine if_neg fun hmap => ?_
  obtain ⟨p, hprevious, hequal⟩ := Option.map_eq_some_iff.mp hmap
  exact hp p hprevious hequal.symm

/-- The rekey units of a plan are REKEY_A and then REKEY_B (R51). -/
theorem rekeyUnits_kinds (rekey : Bool) :
    (rekeyUnits rekey).map (·.kind) = if rekey then [.rekeyA, .rekeyB] else [] := by
  cases rekey <;> rfl

/-! ### Admission check by check -/

/-- A check that passes lets admission go on. -/
theorem require_bind_of_true {α : Type} {c : Bool} (h : c = true) (r : Reason) (next : Unit → Except Reason α) :
    (require c r >>= next) = next () := by
  rw [h]; rfl

theorem needSome_bind_of_some {α β : Type} {o : Option α} {a : α} (h : o = some a) (r : Reason)
    (next : α → Except Reason β) : (needSome o r >>= next) = next a := by
  rw [h]; rfl

theorem needSome_bind_of_none {α β : Type} {o : Option α} (h : o = none) (r : Reason)
    (next : α → Except Reason β) : (needSome o r >>= next) = .error r := by
  rw [h]; rfl

/-- Step 8 of admission: once steps 1 to 7 have passed, a meter whose key is lost is refused (R3, R81). -/
theorem State.admission_of_rekeyLost {s : State} {b : VendBody} {cell : MeterCell} (hrange : VendBody.inRange b = true)
    (hrun : s.watch.part = .run) (hclock : s.clock.state = .running)
    (hcell : s.meters.lookup b.meter = some cell) (hactive : cell.record.state = .active) (hlock : cell.lock = none)
    (hgroup : (s.former.entry cell.record.group).loading = false)
    (hschedule : (s.tariff.schedule cell.record.schedule).loading = false)
    (hlost : rekeyNeed (s.former.entry cell.record.group) cell.record.revision = none) :
    s.admission b = .error .rekeyLost := by
  unfold State.admission
  rw [require_bind_of_true hrange, require_bind_of_true (by rw [hrun]; rfl), require_bind_of_true (by rw [hrun]; rfl),
    require_bind_of_true (by rw [hclock]; rfl), needSome_bind_of_some hcell]
  dsimp only
  rw [require_bind_of_true (by rw [hactive]; rfl), require_bind_of_true (by rw [hlock]; rfl),
    require_bind_of_true (by rw [hgroup, hschedule]; rfl), needSome_bind_of_none hlost]

/-! ### The obligation -/

/-- Settles O60, row by row of R81's table. -/
theorem rekeyNeedByKeyTable : Obligations.RekeyNeedByKeyTable := by
  refine ⟨fun e rev => ⟨fun hnone => rekeyNeed_of_no_current hnone rev, fun c hcurrent => ⟨?_, ?_, ?_⟩⟩,
    rekeyUnits_kinds, fun _ _ _ => State.admission_of_rekeyLost⟩
  · rintro rfl
    exact rekeyNeed_of_current hcurrent
  · rintro p hprevious hrev rfl
    exact rekeyNeed_of_previous hcurrent hprevious hrev
  · exact rekeyNeed_of_neither hcurrent

end Sys2Proof.Machine
end

section
/-! PROOFS. A data byte in WRITE (R183): what the port does with it while the slot's request buffer has room, and what it
does from the 65th byte on. -/

namespace Sys2Proof.Machine

/-! ### The two sides of the 64-byte bound -/

theorem exec_dataByte (b : Byte) (s : State) : exec (.dataByte b) s = execDataByte b s := rfl

section
variable {s : State} {k : SlotNo} {at0 : SlotState} {overrun : Bool}

theorem execDataByte_of_room (hanswering : s.answering = true) (hwrite : s.port.target = .write k at0 overrun)
    (hroom : s.port.buffers[k].length < 64) (b : Byte) :
    execDataByte b s = .next { s with port := { s.port with
      buffers := s.port.buffers.set k (s.port.buffers[k] ++ [b]), ackOut := some true } } := by
  simp only [execDataByte, hanswering, hwrite, Bool.not_true, Bool.false_eq_true, if_false, if_pos hroom]

theorem execDataByte_of_full (hanswering : s.answering = true) (hwrite : s.port.target = .write k at0 overrun)
    (hfull : ¬ s.port.buffers[k].length < 64) (b : Byte) :
    execDataByte b s = .next { s with port := { s.port with target := .write k at0 true, ackOut := some false } } := by
  simp only [execDataByte, hanswering, hwrite, Bool.not_true, Bool.false_eq_true, if_false, if_neg hfull]

end

/-! ### The obligation -/

/-- Settles O13, by whether the slot's request buffer still has room. -/
theorem dataByteStoredOrOverrun : Obligations.DataByteStoredOrOverrun := by
  intro s k at0 overrun b hanswering hwrite
  rw [exec_dataByte]
  split
  case isTrue hroom => exact execDataByte_of_room hanswering hwrite hroom b
  case isFalse hfull => exact execDataByte_of_full hanswering hwrite hfull b

end Sys2Proof.Machine
end

section
/-! PROOFS. The step and the invariants that follow from what every elementary update keeps: the canonical form of the
two stores, the checks of the entries, the clock and the engine's position. -/

namespace Sys2Proof.Machine

/-! ### The step as a chain of elementary updates -/

theorem step_of_empty {s : State} (h : s.pending = []) : step s = .next s := by
  unfold step
  rw [h]

theorem step_of_cons {s : State} {c : Instr} {rest : List Instr} (h : s.pending = c :: rest) :
    step s = exec c { s with pending := rest } := by
  unfold step
  rw [h]

/-- What every elementary update keeps, whatever the waiting commands, every step keeps. -/
theorem step_keeps {P : State → Prop} (hpending : ∀ s rest, P s → P { s with pending := rest })
    (hprim : ∀ s t, Prim s t → P s → P t) {s t : State} (hs : P s) (h : step s = .next t) : P t := by
  cases hp : s.pending with
  | nil =>
    rw [step_of_empty hp] at h
    cases h
    exact hs
  | cons c rest =>
    rw [step_of_cons hp] at h
    obtain ⟨u, hu, reach⟩ := exec_reach c { s with pending := rest }
    rw [hu] at h
    cases h
    exact reach.keeps hprim (hpending s rest hs)

/-! ### What an elementary update keeps -/

theorem Prim.keeps_pending_code {s t : State} (h : Prim s t) :
    t.pending = s.pending ∧ t.float.officeCode = s.float.officeCode := by
  cases h with
  | plain pending code => exact ⟨pending, code⟩
  | meterLocks | meterRecord | put | setPage | blankPage | clockRun | clockUnset => exact ⟨rfl, rfl⟩

theorem Prim.keeps_canonical {s t : State} (h : Prim s t) (hs : s.Canonical) : t.Canonical := by
  obtain ⟨hstore, hcells⟩ := hs
  cases h with
  | plain _ _ store cells =>
    unfold State.Canonical
    rw [store, cells]
    exact ⟨hstore, hcells⟩
  | meterLocks f =>
    refine ⟨hstore, ?_⟩
    rw [List.map_map]
    exact hcells
  | meterRecord w => exact ⟨hstore, writeCells_rising hcells w⟩
  | put a c => exact ⟨putCell_rising hstore a c, hcells⟩
  | setPage p cells => exact ⟨setPage_rising hstore p cells, hcells⟩
  | blankPage p => exact ⟨filter_rising hstore _, hcells⟩
  | clockRun | clockUnset => exact ⟨hstore, hcells⟩

/-- A cell of a page that was set is one that was put there or one that the store held. -/
theorem Journal.setPage_mem {j : Journal} {p : Nat} {cells : List (Nat × SlotContent)} {x : Nat × SlotContent}
    (h : x ∈ (j.setPage p cells).store) : x ∈ cells ∨ x ∈ j.store := by
  have fold : ∀ (l : List (Nat × SlotContent)) (j : Journal),
      x ∈ (l.foldl (fun j c => j.put c.1 c.2) j).store → x ∈ l ∨ x ∈ j.store := by
    intro l
    induction l with
    | nil => exact fun _ h => .inr h
    | cons c l ih =>
      intro j h
      rcases ih _ h with h | h
      · exact .inl (List.mem_cons_of_mem _ h)
      · exact (putCell_mem h).imp_left fun e => by rw [e]; exact List.mem_cons_self
  exact (fold cells _ h).imp_right fun h => (List.mem_filter.mp h).1

theorem Prim.keeps_checksAgree {s t : State} (h : Prim s t) (hs : s.ChecksAgree) : t.ChecksAgree := by
  intro x hx e he
  cases h with
  | plain _ _ store => exact hs x (store ▸ hx) e he
  | meterLocks | meterRecord | clockRun | clockUnset => exact hs x hx e he
  | put a c hc =>
    rcases putCell_mem hx with rfl | hx
    · exact (SlotContent.judged_eq_written.mp (hc.trans he)).2
    · exact hs x hx e he
  | setPage p cells hcells =>
    rcases Journal.setPage_mem hx with hx | hx
    · rcases hcells x hx with half | held
      · rw [half] at he
        cases he
      · exact hs x held e he
    · exact hs x hx e he
  | blankPage p => exact hs x (List.mem_filter.mp hx).1 e he

theorem Prim.keeps_clockAndEngine {s t : State} (h : Prim s t) (hs : s.ClockHonest ∧ s.EngineOnDesks) :
    t.ClockHonest ∧ t.EngineOnDesks := by
  obtain ⟨hclock, hengine⟩ := hs
  cases h with
  | plain _ _ _ _ clock position =>
    refine ⟨fun hunset => ?_, position.elim (fun same => ?_) id⟩
    · rw [clock.2]
      exact hclock (clock.1 ▸ hunset)
    · unfold State.EngineOnDesks
      rw [same]
      exact hengine
  | meterLocks | meterRecord | put | setPage | blankPage => exact ⟨hclock, hengine⟩
  | clockRun c running => exact ⟨fun hunset => (by cases running.symm.trans hunset), hengine⟩
  | clockUnset c unset => exact ⟨fun _ => unset.2, hengine⟩

/-! ### The obligations -/

/-- Settles O1. -/
theorem stepTakesTheFrontCommand : Obligations.StepTakesTheFrontCommand :=
  ⟨fun _ _ _ => step_of_cons rfl, fun _ => step_of_empty⟩

/-- Settles O2: an elementary update touches neither the waiting commands nor the office code. -/
theorem everyCommandAnswersNext : Obligations.EveryCommandAnswersNext := by
  intro i s
  obtain ⟨t, ht, reach⟩ := exec_reach i s
  refine ⟨t, ht, reach.keeps (P := fun u => u.pending = s.pending ∧ u.float.officeCode = s.float.officeCode)
    (fun u v p hu => ?_) ⟨rfl, rfl⟩⟩
  obtain ⟨pending, code⟩ := p.keeps_pending_code
  exact ⟨pending.trans hu.1, code.trans hu.2⟩

/-- Settles O3. -/
theorem stepKeepsCanonicalForm : Obligations.StepKeepsCanonicalForm :=
  ⟨fun _ _ => step_keeps (fun _ _ h => h) fun _ _ => Prim.keeps_canonical,
    fun _ _ => step_keeps (fun _ _ h => h) fun _ _ => Prim.keeps_checksAgree⟩

/-- Settles O4. -/
theorem stepKeepsClockAndEngine : Obligations.StepKeepsClockAndEngine :=
  fun _ _ => step_keeps (fun _ _ h => h) fun _ _ => Prim.keeps_clockAndEngine

end Sys2Proof.Machine
end

section
/-! PROOFS. The state after reset: the delivered part, and the invariants that the step lemmas keep. -/

namespace Sys2Proof.Machine

/-! ### The parts of the reset state -/

theorem reset_slot_zero : State.reset.slot 0 = Slot.zeroReset := rfl

theorem reset_slot_desk {k : SlotNo} (hk : k ≠ 0) : State.reset.slot k = Slot.deskReset := by
  have hv : 0 ≠ k.val := fun e => hk (Fin.ext e.symm)
  simp [State.slot, State.reset, Slot.table, hv]

theorem reset_slot (k : SlotNo) : State.reset.slot k = Slot.zeroReset ∨ State.reset.slot k = Slot.deskReset := by
  by_cases hk : k = 0
  · exact .inl (hk ▸ reset_slot_zero)
  · exact .inr (reset_slot_desk hk)

theorem reset_keyEntry (g : Nat) : State.reset.former.entry g = KeyEntry.delivered := by
  simp [Former.entry, State.reset]

theorem reset_schedule (n : Nat) : State.reset.tariff.schedule n = Schedule.delivered := by
  simp [Tariff.schedule, State.reset]

theorem reset_channel (k : SlotNo) : State.reset.clock.channels[k] = none := by
  simp [State.reset, Clock.delivered]

theorem reset_buffer (k : SlotNo) : State.reset.port.buffers[k] = [] := by
  simp [State.reset, Port.reset]

theorem reset_openVends : State.reset.openVends = [] := by
  refine List.filterMap_eq_nil_iff.mpr fun sl hsl => ?_
  obtain ⟨i, hi, rfl⟩ := List.getElem_of_mem hsl
  have hvend : (State.reset.slot ⟨i, by simpa using hi⟩).vend = none := by
    rcases reset_slot ⟨i, by simpa using hi⟩ with h | h <;> rw [h] <;> rfl
  rw [Vector.getElem_toList, Option.bind_eq_none_iff]
  intro v hv
  cases hvend.symm.trans hv

/-- Every page of an empty store is ERASED and adds its 32 entry slots (R112). -/
theorem delivered_pageObtainable (p : Nat) : Journal.delivered.pageObtainable p = 32 := by
  have erased : Journal.delivered.pageState p = .erased := rfl
  simp [Journal.pageObtainable, erased]

theorem reset_obtainable : State.reset.journal.obtainable = 4096 := by
  have each : (List.range pageCount).map Journal.delivered.pageObtainable = List.replicate 128 32 :=
    List.eq_replicate_iff.mpr ⟨by simp, by simp [delivered_pageObtainable]⟩
  change ((List.range pageCount).map Journal.delivered.pageObtainable).sum = 4096
  rw [each, List.sum_replicate_nat]

/-! ### The invariants -/

theorem reset_scanAlone : State.reset.ScanAlone where
  slots k := by rcases reset_slot k with h | h <;> rw [h] <;> exact ⟨rfl, rfl, rfl, by decide⟩
  unit := ⟨rfl, rfl⟩
  claims := ⟨rfl, rfl, rfl⟩
  queue := ⟨Nat.zero_le _, fun _ h => nomatch h⟩
  placing := .inr ⟨rfl, rfl⟩
  op := .inr (.inl rfl)
  owners := by refine ⟨?_, ?_, ?_, ?_⟩ <;> simp [State.reset, Clock.delivered]
  writes := .inr ⟨rfl, rfl, rfl, rfl⟩
  frozen := .inr rfl

theorem reset_slotZeroAdmin : State.reset.SlotZeroAdmin where
  vend := rfl
  noVend := by decide
  binds _ h := nomatch h
  staging _ _ h := nomatch h

theorem reset_promisesKept : State.reset.PromisesKept where
  atHand _ _ _ h := nomatch h
  reserves h := absurd rfl h
  marking h := absurd rfl h
  reserved _ := Nat.zero_le _

theorem reset_settleOrdered : State.reset.SettleOrdered where
  mark := Nat.le_refl _
  header _ h := nomatch h
  program _ _ _ h := nomatch h
  vends v h := by rw [reset_openVends] at h; exact nomatch h

theorem reset_coherent : State.reset.Coherent where
  starting _ := reset_scanAlone
  run h := absurd rfl h
  permissions := ⟨by decide, fun k hk => by rw [reset_slot_desk hk]; decide⟩
  floatLaw := Nat.le_refl _

/-! ### The obligations -/

/-- Settles O9. -/
theorem resetMeetsInvariants : Obligations.ResetMeetsInvariants :=
  ⟨reset_canonical, by simp [State.ChecksAgree, State.reset, Journal.delivered], fun _ => rfl,
    by simp [State.EngineOnDesks, State.reset], fun _ => reset_scanAlone, reset_slotZeroAdmin,
    reset_channel 0, reset_promisesKept, reset_settleOrdered, reset_coherent⟩

/-- Settles O10. -/
theorem resetLeavesDeliveredPart : Obligations.ResetLeavesDeliveredPart :=
  ⟨rfl, fun _ => reset_slot_desk, rfl, rfl, rfl, rfl, rfl, rfl, rfl, rfl, rfl, reset_keyEntry, reset_schedule, rfl, rfl,
    rfl, rfl, rfl, rfl, reset_obtainable, rfl, rfl, rfl, rfl, reset_channel, rfl, reset_buffer⟩

end Sys2Proof.Machine
end

section
/-! PROOFS. The counter bus: address bytes, writes that carry no request, reads, and the checks that every request
meets (R138 to R141, R181 to R185). -/

namespace Sys2Proof.Machine

/-! ### Address bytes -/

theorem writeByte_toNat (straps : Fin 4) (k : SlotNo) :
    (writeByte straps k).toNat = (0x28 + 16 * straps.val + k.val) * 2 := by
  simp only [writeByte, BitVec.toNat_ofNat]
  omega

theorem readByte_toNat (straps : Fin 4) (k : SlotNo) :
    (readByte straps k).toNat = (0x28 + 16 * straps.val + k.val) * 2 + 1 := by
  simp only [readByte, BitVec.toNat_ofNat]
  omega

theorem find_slotList (f : SlotNo → Byte) (hf : Function.Injective f) (k : SlotNo) :
    slotList.find? (fun j => f j == f k) = some k := by
  have same : (fun j => f j == f k) = fun j => j == k := by
    funext j
    exact Bool.eq_iff_iff.mpr (by simp [hf.eq_iff])
  rw [same]
  clear same
  revert k
  decide

theorem writeByte_injective (straps : Fin 4) : Function.Injective (writeByte straps) := by
  intro j k h
  have h := congrArg BitVec.toNat h
  rw [writeByte_toNat, writeByte_toNat] at h
  exact Fin.ext (by omega)

theorem readByte_injective (straps : Fin 4) : Function.Injective (readByte straps) := by
  intro j k h
  have h := congrArg BitVec.toNat h
  rw [readByte_toNat, readByte_toNat] at h
  exact Fin.ext (by omega)

theorem Port.writeSlot_writeByte (p : Port) (k : SlotNo) : p.writeSlot (writeByte p.straps k) = some k :=
  find_slotList _ (writeByte_injective _) k

theorem Port.readSlot_readByte (p : Port) (k : SlotNo) : p.readSlot (readByte p.straps k) = some k :=
  find_slotList _ (readByte_injective _) k

theorem Port.slots_of_other {p : Port} {b : Byte} (h : ∀ k : SlotNo, b ≠ writeByte p.straps k ∧ b ≠ readByte p.straps k) :
    p.writeSlot b = none ∧ p.readSlot b = none := by
  simp only [Port.writeSlot, Port.readSlot, List.find?_eq_none, beq_iff_eq]
  exact ⟨fun k _ e => (h k).1 e.symm, fun k _ e => (h k).2 e.symm⟩

theorem execWriteAddressByte_own {s : State} (ha : s.answering = true) (hw : s.port.awaitsAddress = true) (k : SlotNo) :
    execWriteAddressByte (writeByte s.port.straps k) s = .next (
      if (s.slot k).state = .working then s.pass
      else { s with port := { s.port with
        target := .write k (s.slot k).state false, buffers := s.port.buffers.set k [], ackOut := some true } }) := by
  simp only [execWriteAddressByte, ha, hw, Bool.not_true, Bool.false_eq_true, if_false, Port.writeSlot_writeByte]
  cases h : (s.slot k).state <;> simp

theorem execAddressByteForAnotherAddress_other {s : State} {b : Byte} (ha : s.answering = true)
    (hw : s.port.awaitsAddress = true) (h : ∀ k : SlotNo, b ≠ writeByte s.port.straps k ∧ b ≠ readByte s.port.straps k) :
    execAddressByteForAnotherAddress b s = .next s.pass := by
  obtain ⟨hwrite, hread⟩ := Port.slots_of_other h
  simp only [execAddressByteForAnotherAddress, ha, hw, Bool.not_true, Bool.false_eq_true, if_false, hwrite, hread]

theorem execReadTransaction_own {s : State} (ha : s.answering = true) (hw : s.port.awaitsAddress = true) (k : SlotNo) :
    execReadTransaction (readByte s.port.straps k) s = .next { s with port := { s.port with
      target := .read k (s.slot k).readFrame 1 false, ackOut := some true
      dataOut := some ((s.slot k).readFrame.getD 0 0xFF) } } := by
  simp only [execReadTransaction, ha, hw, Bool.not_true, Bool.false_eq_true, if_false, Port.readSlot_readByte]

/-- Settles O12. -/
theorem addressBytesAnswered : Obligations.AddressBytesAnswered := by
  refine ⟨fun straps k => ⟨writeByte_toNat straps k, readByte_toNat straps k⟩,
    fun s k ha hw => execWriteAddressByte_own ha hw k,
    fun s b ha hw h => execAddressByteForAnotherAddress_other ha hw h, fun s b ha => ⟨?_, ?_, ?_⟩⟩
  · simp only [exec, execWriteAddressByte, ha, Bool.not_false, if_true, State.silent]
  · simp only [exec, execAddressByteForAnotherAddress, ha, Bool.not_false, if_true, State.silent]
  · simp only [exec, execReadTransaction, ha, Bool.not_false, if_true, State.silent]

/-! ### The end of a write and one slot's record -/

/-- The end of slot k's write with a change of slot k's record touches nothing else. -/
theorem State.endWrite_modSlot_frame (s : State) (k : SlotNo) (f : Slot → Slot) :
    ((s.endWrite k).modSlot k f).port = s.port.ended k ∧ s.SameButSlot ((s.endWrite k).modSlot k f) k ∧
      ((s.endWrite k).modSlot k f).slot k = f (s.slot k) := by
  refine ⟨rfl, ⟨rfl, rfl, rfl, rfl, rfl, rfl, rfl, rfl, rfl, rfl, fun j hj => ?_⟩, ?_⟩
  · rw [State.modSlot_slot_other _ _ (by simpa using hj), State.endWrite_slot]
  · rw [State.modSlot_slot_same, State.endWrite_slot]

/-- What clearing a notice does, whatever the slot's state. -/
theorem State.clearNotice_eq {s : State} {k : SlotNo} (hbound : (s.slot k).state ≠ .unbound) :
    s.clearNotice k = s.modSlot k (fun sl =>
      { sl with notice := if sl.state = .working then sl.notice else none }) := by
  unfold State.clearNotice
  cases hst : (s.slot k).state with
  | unbound => exact absurd hst hbound
  | working => exact (State.modSlot_id s k _ (by rw [if_pos hst])).symm
  | idle | held => exact State.modSlot_congr s k _ _ (by simp [hst])

/-! ### Writes that carry no request -/

theorem execEmptyWrite_of_empty {s : State} {k : SlotNo} {at0 : SlotState} {overrun : Bool} (ha : s.answering = true)
    (hw : s.port.target = .write k at0 overrun) (hempty : s.port.buffers[k] = []) :
    execEmptyWrite s = .next (s.endWrite k) := by
  unfold execEmptyWrite
  rw [hw]
  dsimp only
  rw [if_pos ⟨ha, hempty⟩]

theorem execBadFrame_of_fails {s : State} {k : SlotNo} {at0 : SlotState} {overrun : Bool} (ha : s.answering = true)
    (hw : s.port.target = .write k at0 overrun) (hdata : s.port.buffers[k] ≠ [])
    (hfails : frameFails s.port.buffers[k] overrun = true) :
    execBadFrame s = .next ((s.endWrite k).handBadFrame k at0 s.port.buffers[k]) := by
  unfold execBadFrame
  rw [hw]
  dsimp only
  rw [if_pos ⟨ha, hdata, hfails⟩]

/-- The record of the slot a bad frame is handed on. -/
def Slot.badFrame (sl : Slot) (at0 : SlotState) (bytes : List Byte) : Slot :=
  if at0 = .unbound ∨ sl.state = .unbound then
    { sl with notice := some ⟨bytes.getD 4 0, bytes.getD 5 0, .badFrame⟩ }
  else if sl.state = .working then
    { sl with held := some (responseFrame (bytes.getD 4 0) (bytes.getD 5 0) .refused (some .badFrame) []) }
  else
    { sl with
      held := some (responseFrame (bytes.getD 4 0) (bytes.getD 5 0) .refused (some .badFrame) []), notice := none }

theorem State.handBadFrame_eq (s : State) (k : SlotNo) (at0 : SlotState) (bytes : List Byte) :
    s.handBadFrame k at0 bytes = s.modSlot k (fun sl => sl.badFrame at0 bytes) := by
  unfold State.handBadFrame
  dsimp only
  split
  · rename_i hunbound
    exact State.modSlot_congr s k _ _ (by simp only [Slot.badFrame, if_pos hunbound])
  · rename_i hbound
    rw [State.clearNotice_eq fun h => hbound (.inr h), State.holdFrame, State.modSlot_modSlot]
    refine State.modSlot_congr s k _ _ ?_
    simp only [Slot.badFrame, if_neg hbound]
    split <;> rfl

/-- Settles O14. -/
theorem writesWithoutARequest : Obligations.WritesWithoutARequest := by
  refine ⟨fun s k at0 overrun ha hw hempty => execEmptyWrite_of_empty ha hw hempty, ?_⟩
  rintro s k at0 overrun _ ha hw rfl hdata hfails
  have hframe : frameFails s.port.buffers[k] overrun = true := by
    unfold frameFails
    rcases hfails with h | h <;> rw [h]
    · rfl
    · exact Bool.or_true overrun
  have hexec := execBadFrame_of_fails ha hw hdata hframe
  rw [State.handBadFrame_eq] at hexec
  exact ⟨_, hexec, State.endWrite_modSlot_frame s k _⟩

/-! ### Reads -/

theorem execAcknowledgeFromMaster_reading {s : State} {k : SlotNo} {f : List Byte} {pos : Nat}
    (h : s.port.target = .read k f pos false) (ack : Bool) :
    execAcknowledgeFromMaster ack s = .next (
      if ack then
        { s with port := { s.port with target := .read k f (pos + 1) false, dataOut := some (f.getD pos 0xFF) } }
      else { s with port := { s.port with target := .read k f pos true, dataOut := none } }) := by
  unfold execAcknowledgeFromMaster
  rw [h]

theorem execReadEnd_of_read {s : State} {k : SlotNo} {f : List Byte} {pos : Nat} {stopped : Bool}
    (h : s.port.target = .read k f pos stopped) :
    execReadEnd s = .next { s with port := { s.port with target := .free, dataOut := none } } := by
  unfold execReadEnd
  rw [h]

theorem execReadEnd_of_passed {s : State} (h : s.port.target = .passed) :
    execReadEnd s = .next { s with port := { s.port with target := .free } } := by
  unfold execReadEnd
  rw [h]

theorem Slot.readFrame_of_held {sl : Slot} {f : List Byte} (hheld : sl.held = some f) (hst : sl.state ≠ .working) :
    sl.readFrame = f := by
  unfold Slot.readFrame
  cases h : sl.state with
  | working => exact absurd h hst
  | unbound | idle | held => simp [hheld]

/-- Settles O15. -/
theorem readsServeAFixedCopy : Obligations.ReadsServeAFixedCopy := by
  refine ⟨fun s k ha hw => execReadTransaction_own ha hw k,
    fun s k f pos h => ⟨execAcknowledgeFromMaster_reading h true, execAcknowledgeFromMaster_reading h false⟩,
    fun s k f pos stopped h => execReadEnd_of_read h, fun s h => execReadEnd_of_passed h,
    fun sl => ⟨fun f => Slot.readFrame_of_held, ?_, ?_, ?_, ?_⟩⟩
  · intro hst c q hq
    simp [Slot.readFrame, hst, hq]
  · intro hst hheld
    simp [Slot.readFrame, hst, hheld]
  · intro hst hheld n hn
    simp [Slot.readFrame, hst, hheld, hn]
  · intro hst hheld hn
    simp [Slot.readFrame, hst, hheld, hn]

/-! ### The checks of every request -/

/-- A request command is the taking of that request. -/
theorem exec_takes {i : Instr} (hr : i.request.isSome = true) (s : State) :
    ∃ run, exec i s = .next (s.take i run) := by
  cases i <;> first
    | exact ⟨_, rfl⟩
    | cases hr

/-- A request on a bound slot whose first failing check of R141 gives r is refused r. -/
theorem State.take_refused {s : State} {k : SlotNo} {at0 : SlotState} {i : Instr} {c : RequestCode} {h : Header}
    {r : Reason} (hp : s.Presented k at0 i) (hr : i.request = some (c, h)) (hat : at0 ≠ .unbound)
    (hbound : (s.slot k).state ≠ .unbound) (hfails : firstFailed ((s.slot k).checks c h) = some r)
    (run : State → SlotNo → State) :
    s.take i run = (s.endWrite k).modSlot k (fun sl => { sl with
      held := some (responseFrame c.byte h.seq .refused (some r) (s.refusalBody k i r))
      notice := if sl.state = .working then sl.notice else none }) := by
  unfold State.take
  simp only [hr, hp.writeOf]
  rw [if_neg (by simp [hat, hbound]), State.clearNotice_eq (by simpa using hbound)]
  have checks : firstFailed ((((s.endWrite k).modSlot k fun sl =>
      { sl with notice := if sl.state = .working then sl.notice else none }).slot k).checks c h) = some r := by
    rw [State.modSlot_slot_same]
    exact hfails
  have body : ((s.endWrite k).modSlot k fun sl =>
      { sl with notice := if sl.state = .working then sl.notice else none }).refusalBody k i r = s.refusalBody k i r := by
    cases i <;> simp [State.refusalBody, State.revisionByteOf]
  simp only [checks, State.answerRefused, State.answer, hr, body, State.holdFrame, State.modSlot_modSlot]

theorem firstFailed_tag {sl : Slot} {c : RequestCode} {h : Header} (tag : h.tag ≠ sl.tag) :
    firstFailed (sl.checks c h) = some .tagMismatch := by
  have htag : (h.tag == sl.tag) = false := by simpa using tag
  simp only [Slot.checks, htag, firstFailed]

theorem firstFailed_perm {sl : Slot} {c : RequestCode} {h : Header} {item : PermItem} (tag : h.tag = sl.tag)
    (hitem : RequestCode.item c = some item) (perm : holdsItem sl.perms item = false) :
    firstFailed (sl.checks c h) = some .notPermitted := by
  simp [Slot.checks, firstFailed, tag, hitem, perm]

theorem firstFailed_state {sl : Slot} {c : RequestCode} {h : Header} (tag : h.tag = sl.tag)
    (perm : ∀ item, RequestCode.item c = some item → holdsItem sl.perms item = true) (st : sl.state.admits c = false) :
    firstFailed (sl.checks c h) = some .wrongState := by
  have perm' : (RequestCode.item c).elim true (holdsItem sl.perms) = true := by
    cases hi : RequestCode.item c with
    | none => rfl
    | some item => exact perm item hi
  simp [Slot.checks, firstFailed, tag, perm', st]

/-- Settles O16. -/
theorem checksOfARequestRefuseInOrder : Obligations.ChecksOfARequestRefuseInOrder := by
  refine ⟨fun s k at0 i c h hp hr hb => ?_, fun s k at0 i c h r hp hr hat hbound hwhy => ?_⟩
  · obtain ⟨run, hrun⟩ := exec_takes (Option.isSome_of_mem hr) s
    rw [State.take_unbound hp hr hb] at hrun
    exact hrun
  · obtain ⟨run, hrun⟩ := exec_takes (Option.isSome_of_mem hr) s
    have hfails : firstFailed ((s.slot k).checks c h) = some r := by
      rcases hwhy with ⟨rfl, tag⟩ | ⟨rfl, tag, item, hitem, perm⟩ | ⟨rfl, tag, perm, st⟩
      · exact firstFailed_tag tag
      · exact firstFailed_perm tag hitem perm
      · exact firstFailed_state tag perm st
    rw [State.take_refused hp hr hat hbound hfails] at hrun
    exact ⟨_, hrun, State.endWrite_modSlot_frame s k _⟩

end Sys2Proof.Machine
end

section
/-! PROOFS. Requests answered at once from the records (R64, R104, R132, R133, R140, R152), and the refusal of requests
out of RUN (R155, R166, R169). -/

namespace Sys2Proof.Machine

/-! ### Tables of checks -/

theorem firstFailed_append (a b : List (Bool × Reason)) :
    firstFailed (a ++ b) = (firstFailed a).or (firstFailed b) := by
  induction a with
  | nil => rfl
  | cons c a ih =>
    obtain ⟨holds, r⟩ := c
    cases holds with
    | true => exact ih
    | false => rfl

@[simp] theorem firstFailed_nil : firstFailed [] = none := rfl

@[simp] theorem firstFailed_cons (c : Bool) (r : Reason) (rest : List (Bool × Reason)) :
    firstFailed ((c, r) :: rest) = if c then firstFailed rest else some r := by
  cases c <;> rfl

/-- In RUN the part-state checks pass (R166). -/
theorem State.Running.passes {s : State} (hrun : s.Running) (rest : List (Bool × Reason)) :
    firstFailed (s.partChecks ++ rest) = firstFailed rest := by
  have hpart : s.watch.part = .run := hrun
  simp [State.partChecks, hpart]

/-- Out of RUN the part-state checks name STARTING or POWER_LOW (R166). -/
theorem firstFailed_partChecks_outside {s : State} {r : Reason}
    (h : s.watch.part = .starting ∧ r = .starting ∨ s.watch.part = .holdup ∧ r = .powerLow)
    (rest : List (Bool × Reason)) : firstFailed (s.partChecks ++ rest) = some r := by
  rcases h with ⟨hpart, rfl⟩ | ⟨hpart, rfl⟩ <;> simp [State.partChecks, hpart]

/-! ### The state a request is carried out on -/

/-- A field that an update of slot k's record leaves alone is as it was in every slot. -/
theorem State.modSlot_field {α : Type} (field : Slot → α) (s : State) (k : SlotNo) (f : Slot → Slot)
    (h : field (f (s.slot k)) = field (s.slot k)) (j : SlotNo) : field ((s.modSlot k f).slot j) = field (s.slot j) := by
  by_cases hj : j = k
  · subst hj
    rw [State.modSlot_slot_same, h]
  · rw [State.modSlot_slot_other s f hj]

theorem State.handed_field {α : Type} (field : Slot → α) (s : State) (k : SlotNo)
    (h : ∀ sl : Slot, field { sl with notice := none } = field sl) (j : SlotNo) :
    field ((s.handed k).slot j) = field (s.slot j) :=
  State.modSlot_field field _ k _ (h _) j

theorem State.handed_statusBody (s : State) (k : SlotNo) : (s.handed k).statusBody k = s.statusBody k := by
  have state : ∀ j, ((s.handed k).slot j).state = (s.slot j).state := s.handed_field Slot.state k fun _ => rfl
  have pending : ∀ j, ((s.handed k).slot j).pendingChange = (s.slot j).pendingChange :=
    s.handed_field Slot.pendingChange k fun _ => rfl
  have vendGroup : (s.handed k).statusVend k = s.statusVend k := by
    unfold State.statusVend
    rw [State.handed_slot]
    rfl
  have bits : (s.handed k).pendingBits = s.pendingBits := by
    unfold State.pendingBits
    simp only [pending]
  unfold State.statusBody
  simp only [vendGroup, bits, state]
  rw [State.handed_slot]
  rfl

/-- The outcome of a request that is refused within the handling of its frame. -/
theorem State.handed_answerRefused (s : State) (k : SlotNo) {i : Instr} {c : RequestCode} {h : Header} {body : List Byte}
    (hr : i.request = some (c, h)) (r : Reason) (hbody : (s.handed k).refusalBody k i r = body) :
    (s.handed k).answerRefused k i r =
      (s.endWrite k).modSlot k (fun sl => sl.answered c h .refused (some r) body) := by
  unfold State.answerRefused
  rw [State.handed_answer s k hr, hbody]

/-- A query whose checks pass is answered DONE from the records. -/
theorem State.takeQuery_done {s : State} {k : SlotNo} {i : Instr} {c : RequestCode} {h : Header}
    (a : s.Accepted k i c h) {checks : State → SlotNo → List (Bool × Reason)} {body : State → SlotNo → List Byte}
    {bytes : List Byte} (hpass : firstFailed (checks (s.handed k) k) = none) (hbody : body (s.handed k) k = bytes) :
    s.takeQuery i checks body = { s with
      port := s.port.ended k, slots := s.slots.set k ((s.slot k).answered c h .done none bytes) } := by
  rw [State.takeQuery_accepted a, hpass, ← hbody]
  rfl

/-- A query one of whose checks fails is refused at once. -/
theorem State.takeQuery_refused {s : State} {k : SlotNo} {i : Instr} {c : RequestCode} {h : Header} {r : Reason}
    (a : s.Accepted k i c h) {checks : State → SlotNo → List (Bool × Reason)} {body : State → SlotNo → List Byte}
    {bytes : List Byte} (hfails : firstFailed (checks (s.handed k) k) = some r)
    (hbody : (s.handed k).refusalBody k i r = bytes) :
    s.takeQuery i checks body = { s with
      port := s.port.ended k, slots := s.slots.set k ((s.slot k).answered c h .refused (some r) bytes) } := by
  obtain ⟨-, hr, -⟩ := id a
  rw [State.takeQuery_accepted a, hfails]
  exact State.handed_answerRefused s k hr r hbody

/-! ### STATUS, METER_QUERY, FLOAT_QUERY -/

theorem meterInRange_iff (m : Nat) : meterInRange m = true ↔ 1 ≤ m ∧ m ≤ 99999999999 := by
  simp [meterInRange]

/-- Settles O17. -/
theorem queriesAnsweredAtOnce : Obligations.QueriesAnsweredAtOnce := by
  refine ⟨fun s k h a hrun => congrArg _ (State.takeQuery_done a ?_ (State.handed_statusBody s k)),
    fun s k h m cell a hrun hlow hhigh hcell => congrArg _ (State.takeQuery_done a ?_ ?_),
    fun s k h m a hrun => ⟨fun hrange => congrArg _ (State.takeQuery_refused a ?_ rfl),
      fun hlow hhigh hcell => congrArg _ (State.takeQuery_refused a ?_ rfl)⟩,
    fun s k h a hrun => congrArg _ (State.takeQuery_done a ?_ rfl)⟩
  · exact hrun.passes []
  · exact (State.Running.passes hrun _).trans
      (by simp [(meterInRange_iff m).mpr ⟨hlow, hhigh⟩, show (s.handed k).meters.lookup m = some cell from hcell])
  · exact congrArg (fun c => Option.elim c [] MeterCell.bytes) hcell
  · have out : meterInRange m = false := by
      rw [Bool.eq_false_iff, Ne, meterInRange_iff]
      omega
    exact (State.Running.passes hrun _).trans (by simp [out])
  · exact (State.Running.passes hrun _).trans
      (by simp [(meterInRange_iff m).mpr ⟨hlow, hhigh⟩, show (s.handed k).meters.lookup m = none from hcell])
  · exact hrun.passes []

/-! ### JOURNAL_READ and REPRINT -/

theorem Journal.inStore_iff (j : Journal) (n : Nat) : j.inStore n = true ↔ n ≤ j.last ∧ ∃ e ∈ j.entries, e.number ≤ n := by
  unfold Journal.inStore
  cases hfirst : j.firstNumber with
  | none =>
    have none_in : j.entries = [] := by simpa [Journal.firstNumber] using hfirst
    simp [none_in]
  | some f =>
    obtain ⟨hmem, hleast⟩ := List.min?_eq_some_iff.mp hfirst
    obtain ⟨e, he, hef⟩ := List.mem_map.mp hmem
    simp only [decide_eq_true_eq]
    refine ⟨fun h => ⟨h.2, e, he, hef ▸ h.1⟩, fun ⟨hlast, e', he', hle⟩ => ⟨?_, hlast⟩⟩
    exact (hleast _ (List.mem_map_of_mem he')).trans hle

theorem Journal.token?_of_token {j : Journal} {n : Nat} {e : Entry} {t : TokenEntry} (he : j.entry? n = some e)
    (ht : e.body = .token t) : j.token? n = some (e.slot, t) := by
  unfold Journal.token?
  simp only [he, ht]

theorem Journal.token?_of_none {j : Journal} {n : Nat} (h : ∀ e t, j.entry? n = some e → e.body ≠ .token t) :
    j.token? n = none := by
  unfold Journal.token?
  cases he : j.entry? n with
  | none => rfl
  | some e =>
    cases hb : e.body with
    | token t => exact absurd hb (h e t he)
    | _ => simp only [hb]

/-- Settles O18. -/
theorem journalServedAtOnce : Obligations.JournalServedAtOnce := by
  refine ⟨fun s k h n count a hrun hlow hlast hcount hmost hin => congrArg _ (State.takeQuery_done a ?_ rfl),
    fun s k h n count r a hrun hwhy => congrArg _ (State.takeQuery_refused a ?_ rfl),
    fun s k h n r a hrun hwhy => congrArg _ (State.takeQuery_refused a ?_ rfl), Journal.inStore_iff,
    fun s k h n e t a hrun hlow hlast hin he ht hperm => congrArg _ (State.takeQuery_done a ?_ ?_)⟩
  · have hin : (s.handed k).journal.inStore n = true := hin
    have hlast : n ≤ (s.handed k).journal.last := hlast
    exact (State.Running.passes hrun _).trans (by simp [hlow, hlast, hcount, hmost, hin])
  · refine (State.Running.passes hrun _).trans ?_
    change firstFailed [(decide (1 ≤ n ∧ n ≤ s.journal.last) && decide (1 ≤ count ∧ count ≤ 3), .badField),
      (s.journal.inStore n, .entryGone)] = some r
    rcases hwhy with ⟨rfl, hrange⟩ | ⟨rfl, hlow, hlast, hcount, hmost, hin⟩
    · have out : (decide (1 ≤ n ∧ n ≤ s.journal.last) && decide (1 ≤ count ∧ count ≤ 3)) = false := by
        rw [Bool.eq_false_iff, Ne, Bool.and_eq_true, decide_eq_true_eq, decide_eq_true_eq]
        omega
      simp only [out, firstFailed_cons, Bool.false_eq_true, if_false]
    · simp [hlow, hlast, hcount, hmost, hin]
  · refine (State.Running.passes hrun _).trans ?_
    change firstFailed [(decide (1 ≤ n ∧ n ≤ s.journal.last), .badField), (s.journal.inStore n, .entryGone),
      ((s.journal.token? n).isSome, .badField),
      ((s.journal.token? n).any (fun t => t.1 == k) || holdsItem ((s.handed k).slot k).perms .crossRead,
        .notPermitted)] = some r
    rcases hwhy with ⟨rfl, hrange⟩ | ⟨hlow, hlast, ⟨rfl, hin⟩ | ⟨hin, ⟨rfl, hnone⟩ | ⟨rfl, e, t, he, ht, hslot, hperm⟩⟩⟩
    · have out : decide (1 ≤ n ∧ n ≤ s.journal.last) = false := by
        rw [decide_eq_false_iff_not]
        omega
      simp only [out, firstFailed_cons, Bool.false_eq_true, if_false]
    · simp [hlow, hlast, hin]
    · simp [hlow, hlast, hin, Journal.token?_of_none hnone]
    · simp [hlow, hlast, hin, Journal.token?_of_token he ht, hslot, hperm]
  · refine (State.Running.passes hrun _).trans ?_
    have htoken : (s.handed k).journal.token? n = some (e.slot, t) := Journal.token?_of_token he ht
    have hin : (s.handed k).journal.inStore n = true := hin
    have hlast : n ≤ (s.handed k).journal.last := hlast
    have hallowed : ((e.slot == k) || holdsItem ((s.handed k).slot k).perms .crossRead) = true := by
      simpa using hperm
    simp only [hlow, hlast, hin, htoken, and_self, decide_true, Option.isSome_some, Option.any_some, hallowed,
      firstFailed_cons, firstFailed_nil, if_true]
  · have htoken : (s.handed k).journal.token? n = some (e.slot, t) := Journal.token?_of_token he ht
    rw [htoken]
    rfl

/-! ### Requests out of RUN -/

/-- What is said of a request refused by the part state: nothing but its slot and the port is touched, and of the slot
the held response, the notice and the request in hand alone. -/
def RefusedByPart (s : State) (k : SlotNo) (i : Instr) (c : RequestCode) (h : Header) (r : Reason) (t : State) : Prop :=
  t.port = s.port.ended k ∧ s.SameButSlot t k ∧
    t.slot k = { s.slot k with
      held := some (responseFrame c.byte h.seq .refused (some r) (s.refusalBody k i r))
      notice := none, inHand := (t.slot k).inHand }

theorem State.Accepted.refusalBody_handed {s : State} {k : SlotNo} {i : Instr} {c : RequestCode} {h : Header}
    (_ : s.Accepted k i c h) (r : Reason) : (s.handed k).refusalBody k i r = s.refusalBody k i r := by
  cases i <;> simp [State.refusalBody, State.revisionByteOf] <;> rfl

theorem refusedByPart_of_answer {s : State} {k : SlotNo} {i : Instr} {c : RequestCode} {h : Header}
    (a : s.Accepted k i c h) (r : Reason) : RefusedByPart s k i c h r ((s.handed k).answerRefused k i r) := by
  obtain ⟨-, hr, -⟩ := id a
  rw [State.handed_answerRefused s k hr r (a.refusalBody_handed r)]
  obtain ⟨hport, hrest, hslot⟩ := State.endWrite_modSlot_frame s k
    (fun sl => sl.answered c h .refused (some r) (s.refusalBody k i r))
  refine ⟨hport, hrest, ?_⟩
  rw [hslot]
  rfl

/-- The response of a request whose checks of its own fail. -/
theorem State.taken_refuse {s : State} {k : SlotNo} {i : Instr} {c : RequestCode} {h : Header} {body : List Byte}
    (r : Reason) (hbody : ((s.endWrite k).modSlot k (fun sl => sl.taken c h)).refusalBody k i r = body) :
    ((s.endWrite k).modSlot k (fun sl => sl.taken c h)).refuse k i r =
      (s.endWrite k).modSlot k (fun sl => sl.refused c h r body) := by
  unfold State.refuse State.respond State.holdFrame
  rw [hbody, State.modSlot_modSlot, State.modSlot_modSlot, State.modSlot_slot_same]
  rfl

theorem refusedByPart_of_work {s : State} {k : SlotNo} {i : Instr} {c : RequestCode} {h : Header}
    (a : s.Accepted k i c h) (hwork : RequestCode.forHeld c = false ∧ RequestCode.forBoth c = false) (r : Reason) :
    RefusedByPart s k i c h r (((s.endWrite k).modSlot k (fun sl => sl.taken c h)).refuse k i r) := by
  obtain ⟨-, hr, -, -, -, hadmits⟩ := id a
  have hidle : (s.slot k).state = .idle := by
    rcases SlotState.awake_of_admits hadmits with h | h
    · exact h
    · rw [h] at hadmits
      simp [SlotState.admits, hwork] at hadmits
  have hbody : ((s.endWrite k).modSlot k (fun sl => sl.taken c h)).refusalBody k i r = s.refusalBody k i r := by
    cases i <;> first
      | rfl
      | (cases hr; exact absurd hwork.1 (by decide))
  rw [State.taken_refuse r hbody]
  obtain ⟨hport, hrest, hslot⟩ := State.endWrite_modSlot_frame s k
    (fun sl => sl.refused c h r (s.refusalBody k i r))
  refine ⟨hport, hrest, ?_⟩
  rw [hslot]
  simp [Slot.refused, hidle]

theorem refusedByPart_takeQuery {s : State} {k : SlotNo} {i : Instr} {c : RequestCode} {h : Header} {r : Reason}
    (a : s.Accepted k i c h)
    (hpart : s.watch.part = .starting ∧ r = .starting ∨ s.watch.part = .holdup ∧ r = .powerLow)
    {checks : State → SlotNo → List (Bool × Reason)} (hchecks : ∀ u j, ∃ rest, checks u j = u.partChecks ++ rest)
    (body : State → SlotNo → List Byte) : RefusedByPart s k i c h r (s.takeQuery i checks body) := by
  obtain ⟨rest, hrest⟩ := hchecks (s.handed k) k
  rw [State.takeQuery_accepted a, hrest, firstFailed_partChecks_outside (s := s.handed k) hpart]
  exact refusedByPart_of_answer a r

theorem refusedByPart_takeWork {s : State} {k : SlotNo} {i : Instr} {c : RequestCode} {h : Header} {r : Reason}
    (a : s.Accepted k i c h)
    (hpart : s.watch.part = .starting ∧ r = .starting ∨ s.watch.part = .holdup ∧ r = .powerLow)
    {checks : State → SlotNo → List (Bool × Reason)} (hchecks : ∀ u j, ∃ rest, checks u j = u.partChecks ++ rest)
    (pass : State → SlotNo → State) (hwork : RequestCode.forHeld c = false ∧ RequestCode.forBoth c = false) :
    RefusedByPart s k i c h r (s.takeWork i checks pass) := by
  obtain ⟨rest, hrest⟩ := hchecks ((s.endWrite k).modSlot k (fun sl => sl.taken c h)) k
  rw [State.takeWork_accepted a]
  dsimp only
  rw [hrest, firstFailed_partChecks_outside (s := (s.endWrite k).modSlot k (fun sl => sl.taken c h)) hpart]
  exact refusedByPart_of_work a hwork r

/-- Settles O19, by the shape of each request: a query, a request of work, or one that makes the part-state check
itself. -/
theorem requestsRefusedOutsideRun : Obligations.RequestsRefusedOutsideRun := by
  intro s k i c h r a hvend hgrant hpart
  suffices hnext : ∃ t, exec i s = .next t ∧ RefusedByPart s k i c h r t from hnext
  obtain ⟨-, hr, -⟩ := id a
  have failing := firstFailed_partChecks_outside (s := s.handed k) hpart
  cases i <;> cases hr
  case vend => exact absurd rfl hvend
  case grant => exact absurd rfl hgrant
  case status | meterQuery | floatQuery | journalRead | reprint =>
    exact ⟨_, rfl, refusedByPart_takeQuery a hpart (fun _ _ => ⟨_, rfl⟩) _⟩
  case continueVend | abandon =>
    refine ⟨_, rfl, ?_⟩
    rw [State.take_accepted a, State.vendNoChecks, failing]
    exact refusedByPart_of_answer a r
  case grantOpen =>
    refine ⟨_, rfl, ?_⟩
    rw [State.take_accepted a, ← List.append_nil (s.handed k).partChecks, failing]
    exact refusedByPart_of_answer a r
  all_goals exact ⟨_, rfl, refusedByPart_takeWork a hpart (fun _ _ => ⟨_, rfl⟩) _ ⟨rfl, rfl⟩⟩

end Sys2Proof.Machine
end

section
/-! PROOFS. The checks of the admin requests (R37, R63 to R70, R82, R99, R102, R120, R130, R143, R146, R151, R161, R166):
which check refuses a request, and what the refused one leaves. -/

namespace Sys2Proof.Machine

/-! ### A request that has made its slot WORKING -/

/-- The state after a request of slot k has made it WORKING: its write ended, its slot taken. -/
def State.takenBy (s : State) (k : SlotNo) (c : RequestCode) (h : Header) : State :=
  (s.endWrite k).modSlot k (fun sl => sl.taken c h)

@[simp] theorem State.takenBy_slot_same (s : State) (k : SlotNo) (c : RequestCode) (h : Header) :
    (s.takenBy k c h).slot k = (s.slot k).taken c h := by
  rw [State.takenBy, State.modSlot_slot_same, State.endWrite_slot]

theorem State.takenBy_slot_other (s : State) {j k : SlotNo} (c : RequestCode) (h : Header) (hj : j ≠ k) :
    (s.takenBy k c h).slot j = s.slot j := by
  rw [State.takenBy, State.modSlot_slot_other _ _ hj, State.endWrite_slot]

theorem State.takenBy_field {α : Type} (field : Slot → α) (s : State) (k : SlotNo) (c : RequestCode) (h : Header)
    (hf : ∀ sl : Slot, field (sl.taken c h) = field sl) (j : SlotNo) :
    field ((s.takenBy k c h).slot j) = field (s.slot j) :=
  State.modSlot_field field _ k _ (hf _) j

/-- A request that its slot's state admits does not change whether a slot is UNBOUND when it takes its slot. -/
theorem State.Accepted.takenBy_bound {s : State} {k : SlotNo} {i : Instr} {c : RequestCode} {h : Header}
    (a : s.Accepted k i c h) (j : SlotNo) :
    (((s.takenBy k c h).slot j).state = .unbound ↔ (s.slot j).state = .unbound) := by
  obtain ⟨-, -, hbound, -⟩ := a
  by_cases hj : j = k
  · subst hj
    rw [State.takenBy_slot_same]
    exact ⟨fun e => (by cases e), fun e => absurd e hbound⟩
  · rw [State.takenBy_slot_other s c h hj]

/-- A request of work one of whose checks fails leaves its slot IDLE with the REFUSED held. -/
theorem State.takeWork_refused {s : State} {k : SlotNo} {i : Instr} {c : RequestCode} {h : Header} {r : Reason}
    (a : s.Accepted k i c h) {checks : State → SlotNo → List (Bool × Reason)} {pass : State → SlotNo → State}
    {body : List Byte} (hfails : firstFailed (checks (s.takenBy k c h) k) = some r)
    (hbody : (s.takenBy k c h).refusalBody k i r = body) :
    s.takeWork i checks pass = { s with
      port := s.port.ended k, slots := s.slots.set k ((s.slot k).refused c h r body) } := by
  rw [State.takeWork_accepted a]
  dsimp only
  rw [← State.takenBy, hfails]
  exact State.taken_refuse r hbody

/-- A request of work whose checks pass does its work on the slot it has taken. -/
theorem State.takeWork_passed {s : State} {k : SlotNo} {i : Instr} {c : RequestCode} {h : Header}
    (a : s.Accepted k i c h) {checks : State → SlotNo → List (Bool × Reason)} {pass : State → SlotNo → State}
    (hpass : firstFailed (checks (s.takenBy k c h) k) = none) :
    s.takeWork i checks pass = pass (s.takenBy k c h) k := by
  rw [State.takeWork_accepted a]
  dsimp only
  rw [← State.takenBy, hpass]

/-! ### The checks that look at slots -/

theorem State.takenBy_groupBusy (s : State) (k : SlotNo) (c : RequestCode) (h : Header) (g : Nat) :
    (s.takenBy k c h).groupBusy g = s.groupBusy g := by
  have vend : ∀ j, ((s.takenBy k c h).slot j).vend = (s.slot j).vend := s.takenBy_field Slot.vend k c h fun _ => rfl
  unfold State.groupBusy
  simp only [vend]
  rfl

theorem State.takenBy_keyLoadChecks (s : State) (k : SlotNo) (c : RequestCode) (h : Header) (b : KeyBody) :
    (s.takenBy k c h).keyLoadChecks b = s.keyLoadChecks b := by
  unfold State.keyLoadChecks
  rw [State.takenBy_groupBusy]
  rfl

/-- The tag is taken exactly when some slot is bound to it or binds to it. -/
theorem State.tagTaken_iff (s : State) (tag : BitVec 32) :
    s.tagTaken tag = true ↔
      ∃ j : SlotNo, (s.slot j).state ≠ .unbound ∧ (s.slot j).tag = tag ∨ (s.slot j).pendingTag = some tag := by
  simp only [State.tagTaken, List.any_eq_true, Bool.or_eq_true, Bool.and_eq_true, bne_iff_ne, beq_iff_eq]
  constructor
  · rintro ⟨sl, hsl, h⟩
    obtain ⟨i, hi, rfl⟩ := List.getElem_of_mem hsl
    exact ⟨⟨i, by simpa using hi⟩, h⟩
  · rintro ⟨j, h⟩
    exact ⟨s.slot j, by simp [State.slot], h⟩

theorem State.Accepted.takenBy_tagTaken {s : State} {k : SlotNo} {i : Instr} {c : RequestCode} {h : Header}
    (a : s.Accepted k i c h) (tag : BitVec 32) : (s.takenBy k c h).tagTaken tag = s.tagTaken tag := by
  have tags : ∀ j, ((s.takenBy k c h).slot j).tag = (s.slot j).tag := s.takenBy_field Slot.tag k c h fun _ => rfl
  have pending : ∀ j, ((s.takenBy k c h).slot j).pendingTag = (s.slot j).pendingTag :=
    s.takenBy_field Slot.pendingTag k c h fun _ => rfl
  rw [Bool.eq_iff_iff, State.tagTaken_iff, State.tagTaken_iff]
  simp only [tags, pending, ne_eq, a.takenBy_bound]

theorem State.Accepted.takenBy_stateIs {s : State} {k : SlotNo} {i : Instr} {c : RequestCode} {h : Header}
    (a : s.Accepted k i c h) (j : SlotNo) :
    (((s.takenBy k c h).slot j).state == .unbound) = ((s.slot j).state == .unbound) := by
  rw [Bool.eq_iff_iff, beq_iff_eq, beq_iff_eq]
  exact a.takenBy_bound j

theorem State.Accepted.takenBy_bindChecks {s : State} {k : SlotNo} {i : Instr} {c : RequestCode} {h : Header}
    (a : s.Accepted k i c h) (b : BindBody) : (s.takenBy k c h).bindChecks k b = s.bindChecks k b := by
  have pending : ∀ j, ((s.takenBy k c h).slot j).pendingChange = (s.slot j).pendingChange :=
    s.takenBy_field Slot.pendingChange k c h fun _ => rfl
  unfold State.bindChecks
  simp only [a.takenBy_tagTaken, a.takenBy_stateIs, pending, State.takenBy_slot_same]
  rfl

theorem State.Accepted.takenBy_unbindChecks {s : State} {k : SlotNo} {i : Instr} {c : RequestCode} {h : Header}
    (a : s.Accepted k i c h) (t : Nat) : (s.takenBy k c h).unbindChecks k t = s.unbindChecks k t := by
  have pending : ∀ j, ((s.takenBy k c h).slot j).pendingChange = (s.slot j).pendingChange :=
    s.takenBy_field Slot.pendingChange k c h fun _ => rfl
  have cls : ∀ j, ((s.takenBy k c h).slot j).cls = (s.slot j).cls := s.takenBy_field Slot.cls k c h fun _ => rfl
  unfold State.unbindChecks State.mayUnbind
  simp only [bne, a.takenBy_stateIs, pending, cls]
  rfl

/-! ### Checks as propositions -/

/-- A table of checks agrees with one of propositions. -/
abbrev SameTable (checks : List (Bool × Reason)) (table : List (Prop × Reason)) : Prop :=
  List.Forall₂ (fun c p => (c.1 = true ↔ p.1) ∧ c.2 = p.2) checks table

theorem SameTable.append {a b : List (Bool × Reason)} {p q : List (Prop × Reason)} (h : SameTable a p)
    (g : SameTable b q) : SameTable (a ++ b) (p ++ q) := List.rel_append h g

theorem SameTable.cons {c : Bool} {p : Prop} {r : Reason} {checks : List (Bool × Reason)} {table : List (Prop × Reason)}
    (h : c = true ↔ p) (rest : SameTable checks table) : SameTable ((c, r) :: checks) ((p, r) :: table) :=
  List.Forall₂.cons ⟨h, rfl⟩ rest

theorem SameTable.one {c : Bool} {p : Prop} {r : Reason} (h : c = true ↔ p) : SameTable [(c, r)] [(p, r)] :=
  .cons h List.Forall₂.nil

theorem State.partTable_same (s : State) : SameTable s.partChecks s.partTable :=
  .cons (by simp) (.one (by simp))

theorem State.journalTable_same (s : State) : SameTable s.journalChecks s.journalTable :=
  .cons (by simp) (.one (by simp))

/-- An admin request's table: the part state, its own checks, the Journal's (R120, R166). -/
theorem State.adminTable_iff (s : State) {checks : List (Bool × Reason)} {table : List (Prop × Reason)}
    (own : SameTable checks table) (r : Reason) :
    firstFailed (s.partChecks ++ checks ++ s.journalChecks) = some r ↔
      FirstFailing (s.partTable ++ table ++ s.journalTable) r :=
  firstFailed_iff ((s.partTable_same.append own).append s.journalTable_same) r

theorem State.known_iff (s : State) (m : Nat) : s.known m = true ↔ s.meters.lookup m ≠ none := by
  simp [State.known, Option.isSome_iff_ne_none]

theorem State.lockFree_iff (s : State) (m : Nat) :
    s.lockFree m = true ↔ ∀ c, s.meters.lookup m = some c → c.lock = none := by
  simp [State.lockFree, Option.all_eq_true]

theorem MeterState.ofCode_isSome (st : Nat) : (MeterState.ofCode st).isSome = true ↔ st ≤ 1 := by
  match st with
  | 0 => simp [MeterState.ofCode]
  | 1 => simp [MeterState.ofCode]
  | n + 2 => simp [MeterState.ofCode]

theorem EnrolBody.inRange_iff (b : EnrolBody) : b.inRange = true ↔
    1 ≤ b.meter ∧ b.meter ≤ 99999999999 ∧ b.state ≤ 1 ∧ b.group ≤ 3 ∧ b.revision ≤ 15 ∧ b.schedule ≤ 7 ∧
      b.lastSeq ≤ 65535 ∧ b.monthTenths ≤ 4294967295 ∧ b.fixed ≤ 100000 ∧ b.freeTaken ≤ 1 ∧
      b.arrears ≤ 10000000 ∧ b.recovery ≤ 50 := by
  simp only [EnrolBody.inRange, Bool.and_eq_true, meterInRange_iff, decide_eq_true_eq, max32, and_assoc]

theorem not_or_decide (a : Bool) (p : Prop) [Decidable p] : (!a || decide p) = true ↔ (a = true → p) := by
  cases a <;> simp

theorem UpdateBody.inRange_iff (b : UpdateBody) : b.inRange = true ↔
    1 ≤ b.meter ∧ b.meter ≤ 99999999999 ∧ b.presence ≠ 0 ∧ b.presence.toNat < 32 ∧
      (b.has 0 = true → b.schedule ≤ 7) ∧ (b.has 1 = true → b.arrears ≤ 10000000) ∧
      (b.has 2 = true → b.recovery ≤ 50) ∧ (b.has 3 = true → 1 ≤ b.lastSeq ∧ b.lastSeq ≤ 65535) ∧
      (b.has 4 = true → b.group ≤ 3) ∧ ¬ (b.has 3 = true ∧ b.has 4 = true) := by
  have both : (!(b.has 3 && b.has 4)) = true ↔ ¬ (b.has 3 = true ∧ b.has 4 = true) := by
    rw [Bool.not_eq_true', Bool.and_eq_false_iff, not_and_or, Bool.not_eq_true, Bool.not_eq_true]
  rw [UpdateBody.inRange, Bool.and_eq_true, both]
  simp only [Bool.and_eq_true, meterInRange_iff, decide_eq_true_eq, bne_iff_ne, not_or_decide, and_assoc]

theorem State.changesMeet_iff (s : State) (b : UpdateBody) : s.changesMeet b = true ↔
    ∀ c, s.meters.lookup b.meter = some c → (b.has 3 = true → c.record.lastSeq < b.lastSeq) ∧
      (b.has 4 = true → ∃ cur, s.currentRevision b.group = some cur ∧
        (b.group ≠ c.record.group ∨ c.record.revision ≠ cur)) := by
  simp only [State.changesMeet, Option.all_eq_true, Bool.and_eq_true, not_or_decide]
  refine forall_congr' fun c => imp_congr_right fun _ => and_congr_right fun _ => ?_
  cases b.has 4 <;> simp [Option.any_eq_true]

theorem State.keyInRange_iff (s : State) (b : KeyBody) : s.keyInRange b = true ↔
    b.group ≤ 3 ∧ b.revision ≤ 15 ∧ ∀ cur, s.currentRevision b.group = some cur → b.revision = (cur + 1) % 16 := by
  simp only [State.keyInRange, Bool.and_eq_true, decide_eq_true_eq, Option.all_eq_true, beq_iff_eq, and_assoc]

theorem State.groupBusy_iff (s : State) (g : Nat) : (!s.groupBusy g) = true ↔
    ∀ c ∈ s.meters.cells, c.record.group = g → ∀ j, c.lock = some j → (s.slot j).vend = none := by
  simp only [State.groupBusy, Bool.not_eq_true', List.any_eq_false, Bool.and_eq_true, beq_iff_eq, Option.any_eq_true,
    Option.isSome_iff_ne_none, ne_eq, not_and, not_exists, not_not]

/-- What holds at each place of a list of four. -/
theorem forall_getElem_four {α : Type} {a b c d : α} {P : Nat → α → Prop} :
    (∀ i x, [a, b, c, d][i]? = some x → P i x) ↔ P 0 a ∧ P 1 b ∧ P 2 c ∧ P 3 d := by
  refine ⟨fun h => ⟨h 0 a rfl, h 1 b rfl, h 2 c rfl, h 3 d rfl⟩, fun ⟨ha, hb, hc, hd⟩ i x hx => ?_⟩
  match i, hx with
  | 0, hx => cases hx; exact ha
  | 1, hx => cases hx; exact hb
  | 2, hx => cases hx; exact hc
  | 3, hx => cases hx; exact hd
  | _ + 4, hx => cases hx

/-- The field check of a TARIFF_LOAD, by the block count. -/
theorem TariffBody.inRange_iff (b : TariffBody) : b.inRange = true ↔ TariffFieldsInRange b := by
  have next : ∀ (i : Nat) (p : BlockPos), (∀ q, i + 2 < b.count → [b.pos1, b.pos2, b.pos3, b.pos4][i + 1]? = some q →
      p.threshold < q.threshold) ↔ (i + 2 < b.count → ∀ q, [b.pos1, b.pos2, b.pos3, b.pos4][i + 1]? = some q →
      p.threshold < q.threshold) := fun i p => ⟨fun h c q => h q c, fun h q c => h c q⟩
  simp only [TariffBody.inRange, TariffFieldsInRange, Bool.and_eq_true, decide_eq_true_eq, and_assoc, next,
    forall_getElem_four]
  refine and_congr_right fun _ => and_congr_right fun hlow => and_congr_right fun hhigh => ?_
  have hcount : b.count = 1 ∨ b.count = 2 ∨ b.count = 3 ∨ b.count = 4 := by omega
  rcases hcount with h | h | h | h <;> simp [TariffBody.positions, h, thresholdsRise] <;> omega

theorem bindClass_iff (cls : Nat) (perms : BitVec 8) :
    (SlotClass.ofBindCode cls).any (fun c => perms &&& ~~~c.mayHold == 0) = true ↔
      cls = 1 ∧ perms &&& ~~~SlotClass.supervisor.mayHold = 0 ∨ cls = 2 ∧ perms &&& ~~~SlotClass.cashier.mayHold = 0 := by
  match cls with
  | 0 => simp [SlotClass.ofBindCode]
  | 1 => simp [SlotClass.ofBindCode]
  | 2 => simp [SlotClass.ofBindCode]
  | n + 3 => simp [SlotClass.ofBindCode]

theorem deskInRange_iff (t : Nat) : deskInRange t = true ↔ 1 ≤ t ∧ t ≤ 7 := by
  simp [deskInRange]

theorem BindBody.inRange_iff (b : BindBody) : Machine.BindBody.inRange b = true ↔
    1 ≤ b.target ∧ b.target ≤ 7 ∧ b.tag ≠ 0 ∧
      (b.cls = 1 ∧ b.perms &&& ~~~SlotClass.supervisor.mayHold = 0 ∨
        b.cls = 2 ∧ b.perms &&& ~~~SlotClass.cashier.mayHold = 0) ∧
      (b.lease = 0 ∨ 30 ≤ b.lease ∧ b.lease ≤ 900) := by
  simp only [Machine.BindBody.inRange, Bool.and_eq_true, deskInRange_iff, bne_iff_ne, bindClass_iff, Bool.or_eq_true,
    beq_iff_eq, decide_eq_true_eq, and_assoc]

theorem Slot.mayBind_iff (sl : Slot) (b : BindBody) : sl.mayBind b = true ↔
    (sl.cls = some .supervisor → b.cls = 2 ∧ b.perms &&& ~~~sl.perms = 0) := by
  simp only [Slot.mayBind, Bool.or_eq_true, bne_iff_ne, Bool.and_eq_true, beq_iff_eq]
  exact ⟨fun h hs => h.resolve_left fun hne => hne hs, fun h => (em _).elim (fun hs => .inr (h hs)) .inl⟩

theorem Slot.pendingTag_eq_some (sl : Slot) (tag : BitVec 32) :
    sl.pendingTag = some tag ↔ ∃ e ph, sl.admin = some ⟨some (.bind e), ph⟩ ∧ e.tag = tag := by
  unfold Slot.pendingTag
  split
  · rename_i e ph h
    rw [h]
    refine ⟨fun ht => ⟨e, ph, rfl, Option.some.inj ht⟩, ?_⟩
    rintro ⟨e', ph', heq, rfl⟩
    cases heq
    rfl
  · rename_i hne
    exact ⟨fun ht => (by cases ht), fun ⟨e, ph, h, _⟩ => absurd h (hne e ph)⟩

theorem State.tagFree_iff (s : State) (tag : BitVec 32) : (!s.tagTaken tag) = true ↔
    ∀ j : SlotNo, ¬ ((s.slot j).state ≠ .unbound ∧ (s.slot j).tag = tag) ∧
      ∀ e ph, (s.slot j).admin = some ⟨some (.bind e), ph⟩ → e.tag ≠ tag := by
  rw [Bool.not_eq_true', Bool.eq_false_iff, Ne, State.tagTaken_iff]
  simp only [Slot.pendingTag_eq_some, not_exists, not_or, not_and]

theorem State.mayUnbind_iff (s : State) (k t : SlotNo) : s.mayUnbind k t = true ↔
    ((s.slot k).cls = some .supervisor → t = k ∨ (s.slot t).cls = some .cashier) := by
  simp only [State.mayUnbind, Bool.or_eq_true, bne_iff_ne, beq_iff_eq, or_assoc]
  exact ⟨fun h hs => h.resolve_left fun hne => hne hs, fun h => (em _).elim (fun hs => .inr (h hs)) .inl⟩

/-! ### The obligation -/

/-- Settles O20: each refused request by its own table, the tables by what each check says. -/
theorem refusedAdminRequestsChangeNothing : Obligations.RefusedAdminRequestsChangeNothing := by
  refine ⟨fun s k h r => ⟨fun a hf => congrArg _ (State.takeWork_refused a hf rfl),
    fun _ _ a hf => congrArg _ (State.takeWork_refused a hf rfl),
    fun _ a hf => congrArg _ (State.takeWork_refused a hf rfl),
    fun _ a hf => congrArg _ (State.takeWork_refused a hf rfl),
    fun _ a hf => congrArg _ (State.takeWork_refused a hf rfl),
    fun b a hf => congrArg _ (State.takeWork_refused a ((State.takenBy_keyLoadChecks s k _ _ b).symm ▸ hf) rfl),
    fun _ a hf => congrArg _ (State.takeWork_refused a hf rfl),
    fun _ _ a hf => congrArg _ (State.takeWork_refused a hf rfl),
    fun b a hf => congrArg _ (State.takeWork_refused a ((a.takenBy_bindChecks b).symm ▸ hf) rfl),
    fun t a hf => congrArg _ (State.takeWork_refused a ((a.takenBy_unbindChecks t).symm ▸ hf) rfl),
    fun _ a hf => congrArg _ (State.takeWork_refused a hf rfl),
    fun _ a hf => congrArg _ (State.takeWork_refused a hf rfl)⟩, fun s k r => ?_⟩
  have admin := fun {checks table} (own : SameTable checks table) => s.adminTable_iff own r
  refine ⟨?_, fun m st => admin ?_, fun b => admin ?_, fun m => admin ?_, fun b => admin ?_, fun b => admin ?_,
    fun b wasOpen => ?_, fun a => ?_, fun sec => admin ?_, fun n => ?_, fun b => admin ?_, fun b => admin ?_,
    fun t => admin ?_⟩
  · exact firstFailed_iff (s.partTable_same.append s.journalTable_same) r
  · exact .cons (by rw [Bool.and_eq_true, meterInRange_iff, MeterState.ofCode_isSome, and_assoc])
      (.cons (s.known_iff m) (.one (s.lockFree_iff m)))
  · exact .cons beq_iff_eq (.cons (EnrolBody.inRange_iff b) (.cons (s.lockFree_iff _)
      (.cons (by simp [State.known]) (.one decide_eq_true_iff))))
  · exact .cons (meterInRange_iff m) (.cons (s.known_iff m) (.one (s.lockFree_iff m)))
  · exact .cons (UpdateBody.inRange_iff b) (.cons (s.known_iff _) (.cons (s.lockFree_iff _) (.one (s.changesMeet_iff b))))
  · exact .cons (s.keyInRange_iff b) (.one (s.groupBusy_iff _))
  · refine firstFailed_iff (SameTable.append (.append (.append (.one .rfl) s.partTable_same) ?_) s.journalTable_same) r
    exact .cons beq_iff_eq (.cons (by rw [Bool.and_eq_true, decide_eq_true_eq, decide_eq_true_eq]; rfl)
      (.cons (by simp) (.one decide_eq_true_iff)))
  · refine firstFailed_iff (SameTable.append (.append (.append s.partTable_same ?_) s.journalTable_same) ?_) r
    · exact .one decide_eq_true_iff
    · exact .one decide_eq_true_iff
  · exact .cons bne_iff_ne (.one (by simp))
  · exact firstFailed_iff (s.partTable_same.append (.cons decide_eq_true_iff (.one beq_iff_eq))) r
  · exact .one (TariffBody.inRange_iff b)
  · exact .cons (BindBody.inRange_iff b) (.cons (Slot.mayBind_iff _ b) (.cons (by simp [targetSlot]) (.one (s.tagFree_iff _))))
  · exact .cons (deskInRange_iff t) (.cons (s.mayUnbind_iff k _) (.one (by simp [targetSlot])))

end Sys2Proof.Machine
end

section
/-! PROOFS. Admission (R2, R3): its twelve steps in three runs, up to the lookup, up to pricing, and after it; when each
run passes, and which of its checks gives the reason. -/

namespace Sys2Proof.Machine

/-! ### Runs of checks -/

theorem require_bind_eq_ok {α : Type} {c : Bool} {r : Reason} {next : Unit → Except Reason α} {x : α} :
    (require c r >>= next) = .ok x ↔ c = true ∧ next () = .ok x := by
  cases c with
  | true => exact ⟨fun h => ⟨rfl, h⟩, fun h => h.2⟩
  | false => exact ⟨fun h => (by cases h), fun h => (by cases h.1)⟩

theorem needSome_bind_eq_ok {α β : Type} {o : Option α} {r : Reason} {next : α → Except Reason β} {x : β} :
    (needSome o r >>= next) = .ok x ↔ ∃ a, o = some a ∧ next a = .ok x := by
  cases o with
  | none => exact ⟨fun h => (by cases h), fun ⟨_, h, _⟩ => (by cases h)⟩
  | some a => exact ⟨fun h => ⟨a, rfl, h⟩, fun ⟨_, h, hn⟩ => (by cases h; exact hn)⟩

theorem except_bind_eq_ok {α β : Type} {m : Except Reason α} {next : α → Except Reason β} {x : β} :
    (m >>= next) = .ok x ↔ ∃ a, m = .ok a ∧ next a = .ok x := by
  cases m with
  | error r => exact ⟨fun h => (by cases h), fun ⟨_, h, _⟩ => (by cases h)⟩
  | ok a => exact ⟨fun h => ⟨a, rfl, h⟩, fun ⟨_, h, hn⟩ => (by cases h; exact hn)⟩

/-- Where no check is left none gives a reason. -/
theorem firstFailing_nil {P : Prop} {reason : Reason} (h : FirstFailing [] reason) : P := False.elim h

/-- A check gives its reason, or passes and leaves the reason to the checks after it. -/
theorem require_bind_error {α : Type} {c : Bool} {P : Prop} {r reason : Reason} {table : List (Prop × Reason)}
    {next : Unit → Except Reason α} (hc : c = true ↔ P) (hnext : FirstFailing table reason → next () = .error reason)
    (h : FirstFailing ((P, r) :: table) reason) : (require c r >>= next) = .error reason := by
  rcases h with ⟨hP, rfl⟩ | ⟨hP, hrest⟩
  · rw [Bool.eq_false_iff.mpr fun e => hP (hc.mp e)]
    rfl
  · rw [hc.mpr hP]
    exact hnext hrest

theorem needSome_bind_error {α β : Type} {o : Option α} {r reason : Reason} {table : List (Prop × Reason)}
    {next : α → Except Reason β} (hnext : ∀ a, o = some a → FirstFailing table reason → next a = .error reason)
    (h : FirstFailing ((o ≠ none, r) :: table) reason) : (needSome o r >>= next) = .error reason := by
  rcases h with ⟨hnone, rfl⟩ | ⟨hsome, hrest⟩
  · exact needSome_bind_of_none (by simpa using hnone) _ _
  · obtain ⟨a, ha⟩ := Option.ne_none_iff_exists'.mp hsome
    rw [needSome_bind_of_some ha]
    exact hnext a ha hrest

/-! ### The three runs of admission -/

/-- Admission's steps 11 and 12, after pricing. -/
def State.admitPlan (s : State) (r : MeterRecord) (plan : Plan) : Except Reason (MeterRecord × Plan) := do
  require (s.float.state == .live) .floatFrozen
  require (s.float.covers plan.value) .floatShort
  require (s.journal.mode == .normal) .storeFault
  require (s.journal.shareFits plan.share) .journalFull
  return (r, plan)

/-- Admission's steps 5 to 12, on the meter's record. -/
def State.admitMeter (s : State) (b : VendBody) (cell : MeterCell) : Except Reason (MeterRecord × Plan) := do
  let r := cell.record
  require (r.state == .active) .meterBlocked
  require cell.lock.isNone .meterBusy
  require (!(s.former.entry r.group).loading && !(s.tariff.schedule r.schedule).loading) .busyLoading
  let rekey ← needSome (rekeyNeed (s.former.entry r.group) r.revision) .rekeyLost
  require (sequenceFits (s.tariff.schedule r.schedule) r.lastSeq b.kind b.tender rekey) .seqExhausted
  let plan ← makePlan (s.tariff.schedule r.schedule) r b.kind b.tender s.clock.month rekey
  s.admitPlan r plan

theorem State.admission_eq (s : State) (b : VendBody) : s.admission b = (do
    require (Machine.VendBody.inRange b) .badField
    require (s.watch.part != .starting) .starting
    require (s.watch.part != .holdup) .powerLow
    require (s.clock.state == .running) .clockUnset
    let cell ← needSome (s.meters.lookup b.meter) .unknownMeter
    s.admitMeter b cell) := rfl

/-! ### What each check says -/

theorem VendBody.inRange_iff (b : VendBody) : Machine.VendBody.inRange b = true ↔
    1 ≤ b.meter ∧ b.meter ≤ 99999999999 ∧
      (b.kind = 0 ∧ 100 ≤ b.tender ∧ b.tender ≤ 500000 ∨ b.kind = 1 ∧ b.tender = 0) := by
  rw [Machine.VendBody.inRange, Bool.and_eq_true, meterInRange_iff, and_assoc]
  by_cases h : b.kind = 0 <;> simp [h]

theorem State.notLoading_iff (s : State) (r : MeterRecord) :
    (!(s.former.entry r.group).loading && !(s.tariff.schedule r.schedule).loading) = true ↔
      (s.former.entry r.group).loading = false ∧ (s.tariff.schedule r.schedule).loading = false := by
  rw [Bool.and_eq_true, Bool.not_eq_true', Bool.not_eq_true']

theorem sequenceFits_iff (sch : Schedule) (lastSeq kind tender : Nat) (rekey : Bool) :
    sequenceFits sch lastSeq kind tender rekey = true ↔
      if rekey then lastSeq ≤ 65533 else lastSeq + unitsBound sch kind tender false ≤ 65533 := by
  cases rekey <;> simp [sequenceFits]

theorem State.inRun_iff (s : State) :
    (s.watch.part != .starting) = true ∧ (s.watch.part != .holdup) = true ↔ s.watch.part = .run := by
  cases s.watch.part <;> simp

theorem Journal.shareFits_iff (j : Journal) (p : Plan) :
    j.shareFits p.share = true ↔ p.units.length + 2 + j.reserved + 32 ≤ j.obtainable := by
  rw [Journal.shareFits, decide_eq_true_eq]
  rfl

theorem FloatAccount.covers_iff (f : FloatAccount) (n : Nat) :
    f.covers n = true ↔ f.reservedPoints + n ≤ f.work.balance := by
  simp [FloatAccount.covers]

/-! ### Admission passes -/

theorem State.admitPlan_eq_ok {s : State} {r r' : MeterRecord} {plan p : Plan} :
    s.admitPlan r' plan = .ok (r, p) ↔ r' = r ∧ plan = p ∧ s.float.state = .live ∧
      s.float.reservedPoints + p.value ≤ s.float.work.balance ∧ s.journal.mode = .normal ∧
      p.units.length + 2 + s.journal.reserved + 32 ≤ s.journal.obtainable := by
  simp only [State.admitPlan, require_bind_eq_ok, beq_iff_eq, FloatAccount.covers_iff, Journal.shareFits_iff, pure,
    Except.pure, Except.ok.injEq, Prod.mk.injEq]
  constructor
  · rintro ⟨hlive, hcovers, hmode, hfits, rfl, rfl⟩
    exact ⟨rfl, rfl, hlive, hcovers, hmode, hfits⟩
  · rintro ⟨rfl, rfl, hlive, hcovers, hmode, hfits⟩
    exact ⟨hlive, hcovers, hmode, hfits, rfl, rfl⟩

theorem State.admitMeter_eq_ok {s : State} {b : VendBody} {cell : MeterCell} {r : MeterRecord} {p : Plan} :
    s.admitMeter b cell = .ok (r, p) ↔ ∃ rekey : Bool, cell.record = r ∧ r.state = .active ∧ cell.lock = none ∧
      (s.former.entry r.group).loading = false ∧ (s.tariff.schedule r.schedule).loading = false ∧
      rekeyNeed (s.former.entry r.group) r.revision = some rekey ∧
      (if rekey then r.lastSeq ≤ 65533
        else r.lastSeq + unitsBound (s.tariff.schedule r.schedule) b.kind b.tender false ≤ 65533) ∧
      makePlan (s.tariff.schedule r.schedule) r b.kind b.tender s.clock.month rekey = .ok p ∧
      s.float.state = .live ∧ s.float.reservedPoints + p.value ≤ s.float.work.balance ∧
      s.journal.mode = .normal ∧ p.units.length + 2 + s.journal.reserved + 32 ≤ s.journal.obtainable := by
  simp only [State.admitMeter, require_bind_eq_ok, needSome_bind_eq_ok, beq_iff_eq, State.notLoading_iff,
    Option.isNone_iff_eq_none, sequenceFits_iff]
  simp only [except_bind_eq_ok, State.admitPlan_eq_ok]
  constructor
  · rintro ⟨hactive, hlock, ⟨hkeys, hsched⟩, rekey, hrekey, hseq, plan, hplan, rfl, rfl, hrest⟩
    exact ⟨rekey, rfl, hactive, hlock, hkeys, hsched, hrekey, hseq, hplan, hrest⟩
  · rintro ⟨rekey, rfl, hactive, hlock, hkeys, hsched, hrekey, hseq, hplan, hrest⟩
    exact ⟨hactive, hlock, ⟨hkeys, hsched⟩, rekey, hrekey, hseq, p, hplan, rfl, rfl, hrest⟩

theorem State.admission_eq_ok {s : State} {b : VendBody} {r : MeterRecord} {p : Plan} :
    s.admission b = .ok (r, p) ↔ (1 ≤ b.meter ∧ b.meter ≤ 99999999999) ∧
      (b.kind = 0 ∧ 100 ≤ b.tender ∧ b.tender ≤ 500000 ∨ b.kind = 1 ∧ b.tender = 0) ∧
      s.watch.part = .run ∧ s.clock.state = .running ∧
      ∃ cell, s.meters.lookup b.meter = some cell ∧ s.admitMeter b cell = .ok (r, p) := by
  rw [State.admission_eq]
  simp only [require_bind_eq_ok, needSome_bind_eq_ok, VendBody.inRange_iff, beq_iff_eq, and_assoc]
  rw [← s.inRun_iff]
  simp only [and_assoc]

/-! ### Admission fails -/

/-- The checks up to the lookup, as O21 lists them. -/
theorem State.admission_error_first {s : State} {b : VendBody} {reason : Reason}
    (h : FirstFailing ([((1 ≤ b.meter ∧ b.meter ≤ 99999999999 ∧
        (b.kind = 0 ∧ 100 ≤ b.tender ∧ b.tender ≤ 500000 ∨ b.kind = 1 ∧ b.tender = 0) : Prop), Reason.badField)] ++
      s.partTable ++ [(s.clock.state = .running, .clockUnset), (s.meters.lookup b.meter ≠ none, .unknownMeter)])
      reason) : s.admission b = .error reason := by
  simp only [State.partTable, List.cons_append, List.nil_append] at h
  rw [State.admission_eq]
  exact require_bind_error (VendBody.inRange_iff b) (require_bind_error bne_iff_ne (require_bind_error bne_iff_ne
    (require_bind_error beq_iff_eq (needSome_bind_error fun _ _ => firstFailing_nil)))) h

theorem State.admission_of_first {s : State} {b : VendBody} {cell : MeterCell}
    (h : ∀ x ∈ [((1 ≤ b.meter ∧ b.meter ≤ 99999999999 ∧
        (b.kind = 0 ∧ 100 ≤ b.tender ∧ b.tender ≤ 500000 ∨ b.kind = 1 ∧ b.tender = 0) : Prop), Reason.badField)] ++
      s.partTable ++ [(s.clock.state = .running, .clockUnset), (s.meters.lookup b.meter ≠ none, .unknownMeter)], x.1)
    (hcell : s.meters.lookup b.meter = some cell) : s.admission b = s.admitMeter b cell := by
  simp only [State.partTable, List.cons_append, List.nil_append, List.forall_mem_cons] at h
  obtain ⟨hrange, hstart, hhold, hclock, -⟩ := h
  rw [State.admission_eq, require_bind_of_true ((VendBody.inRange_iff b).mpr hrange),
    require_bind_of_true (bne_iff_ne.mpr hstart), require_bind_of_true (bne_iff_ne.mpr hhold),
    require_bind_of_true (beq_iff_eq.mpr hclock), needSome_bind_of_some hcell]

theorem sequenceFits_table {o : Option Bool} {rekey : Bool} (ho : o = some rekey) (sch : Schedule)
    (lastSeq kind tender : Nat) : sequenceFits sch lastSeq kind tender rekey = true ↔
      if o = some true then lastSeq ≤ 65533 else lastSeq + unitsBound sch kind tender false ≤ 65533 := by
  subst ho
  cases rekey <;> simp [sequenceFits]

/-- The checks from the record to the sequence room, as O21 lists them. -/
theorem State.admitMeter_error {s : State} {b : VendBody} {cell : MeterCell} {reason : Reason}
    (h : FirstFailing
      [(cell.record.state = .active, .meterBlocked), (cell.lock = none, .meterBusy),
       ((s.former.entry cell.record.group).loading = false ∧
         (s.tariff.schedule cell.record.schedule).loading = false, .busyLoading),
       (rekeyNeed (s.former.entry cell.record.group) cell.record.revision ≠ none, .rekeyLost),
       (if rekeyNeed (s.former.entry cell.record.group) cell.record.revision = some true then
          cell.record.lastSeq ≤ 65533
        else cell.record.lastSeq + unitsBound (s.tariff.schedule cell.record.schedule) b.kind b.tender false ≤ 65533,
        .seqExhausted)] reason) : s.admitMeter b cell = .error reason :=
  require_bind_error beq_iff_eq (require_bind_error Option.isNone_iff_eq_none (require_bind_error
    (s.notLoading_iff cell.record) (needSome_bind_error fun _ hrekey => require_bind_error
      (sequenceFits_table hrekey _ _ _ _) firstFailing_nil))) h

theorem State.admitMeter_of_second {s : State} {b : VendBody} {cell : MeterCell} {rekey : Bool}
    (h : ∀ x ∈
      [((cell.record.state = .active : Prop), Reason.meterBlocked), (cell.lock = none, .meterBusy),
       ((s.former.entry cell.record.group).loading = false ∧
         (s.tariff.schedule cell.record.schedule).loading = false, .busyLoading),
       (rekeyNeed (s.former.entry cell.record.group) cell.record.revision ≠ none, .rekeyLost),
       (if rekeyNeed (s.former.entry cell.record.group) cell.record.revision = some true then
          cell.record.lastSeq ≤ 65533
        else cell.record.lastSeq + unitsBound (s.tariff.schedule cell.record.schedule) b.kind b.tender false ≤ 65533,
        .seqExhausted)], x.1)
    (hrekey : rekeyNeed (s.former.entry cell.record.group) cell.record.revision = some rekey) :
    s.admitMeter b cell =
      (makePlan (s.tariff.schedule cell.record.schedule) cell.record b.kind b.tender s.clock.month rekey >>=
        s.admitPlan cell.record) := by
  simp only [List.forall_mem_cons] at h
  obtain ⟨hactive, hlock, hloading, -, hseq, -⟩ := h
  unfold State.admitMeter
  dsimp only
  rw [require_bind_of_true (beq_iff_eq.mpr hactive), require_bind_of_true (Option.isNone_iff_eq_none.mpr hlock),
    require_bind_of_true ((s.notLoading_iff cell.record).mpr hloading), needSome_bind_of_some hrekey,
    require_bind_of_true ((sequenceFits_table hrekey _ _ _ _).mpr hseq)]

/-- The checks after pricing, as O21 lists them. -/
theorem State.admitPlan_error {s : State} {r : MeterRecord} {p : Plan} {reason : Reason}
    (h : FirstFailing
      [(s.float.state = .live, .floatFrozen), (s.float.reservedPoints + p.value ≤ s.float.work.balance, .floatShort),
       (s.journal.mode = .normal, .storeFault),
       (p.units.length + 2 + s.journal.reserved + 32 ≤ s.journal.obtainable, .journalFull)] reason) :
    s.admitPlan r p = .error reason :=
  require_bind_error beq_iff_eq (require_bind_error (s.float.covers_iff _) (require_bind_error beq_iff_eq
    (require_bind_error (s.journal.shareFits_iff p) firstFailing_nil))) h

/-! ### Pricing refuses -/

theorem MeterRecord.rolledOver_freeTaken (r : MeterRecord) (month : Nat) :
    (r.rolledOver month).freeTaken = true ↔ r.monthStamp = month ∧ r.freeTaken = true := by
  unfold MeterRecord.rolledOver
  split <;> simp [*]

theorem freePlan_eq_error (sch : Schedule) (r : MeterRecord) (month : Nat) (rekey : Bool) (reason : Reason) :
    freePlan sch r month rekey = .error reason ↔
      r.monthStamp = month ∧ r.freeTaken = true ∧ reason = .freeTaken ∨
        ¬ (r.monthStamp = month ∧ r.freeTaken = true) ∧ sch.allowance = 0 ∧ reason = .tenderLow := by
  unfold freePlan
  simp only [MeterRecord.rolledOver_freeTaken]
  by_cases htaken : r.monthStamp = month ∧ r.freeTaken = true
  · simp [htaken, eq_comm]
  · by_cases hnone : sch.allowance = 0
    · rw [if_neg htaken, if_pos hnone]
      simp only [Except.error.injEq, htaken, hnone, not_false_eq_true, true_and, eq_comm (a := Reason.tenderLow)]
      exact ⟨.inr, fun h => h.elim (fun h => absurd ⟨h.1, h.2.1⟩ htaken) id⟩
    · rw [if_neg htaken, if_neg hnone]
      simp only [reduceCtorEq, false_iff, hnone, false_and, and_false, or_false]
      exact fun h => htaken ⟨h.1, h.2.1⟩

theorem creditPlan_eq_error (sch : Schedule) (r : MeterRecord) (tender month : Nat) (rekey : Bool) (reason : Reason) :
    creditPlan sch r tender month rekey = .error reason ↔
      sch.maxTender < tender ∧ reason = .amountLimit ∨
        tender ≤ sch.maxTender ∧
          ((creditFigures sch (r.rolledOver month) tender).tenths = 0 ∧
              (creditFigures sch (r.rolledOver month) tender).fixed = 0 ∧
              (creditFigures sch (r.rolledOver month) tender).arrears = 0 ∧ reason = .tenderLow ∨
            (creditFigures sch (r.rolledOver month) tender).tenths ≠ 0 ∧
              16 < ceilDiv (creditFigures sch (r.rolledOver month) tender).tenths sch.cap + (if rekey then 2 else 0) ∧
              reason = .amountLimit) := by
  unfold creditPlan
  dsimp only
  generalize creditFigures sch (r.rolledOver month) tender = f
  have hcount : rekeyCount rekey = if rekey = true then 2 else 0 := rfl
  by_cases hmax : sch.maxTender < tender
  · have : ¬ tender ≤ sch.maxTender := by omega
    simp [hmax, this, eq_comm]
  · have hle : tender ≤ sch.maxTender := by omega
    rw [if_neg hmax]
    by_cases htenths : f.tenths = 0
    · by_cases hcharges : f.fixed = 0 ∧ f.arrears = 0
      · simp [hmax, hle, htenths, hcharges, eq_comm]
      · rw [if_pos htenths, if_neg hcharges]
        simp only [reduceCtorEq, hmax, false_and, htenths, ne_eq, not_true_eq_false, or_false, false_or, true_and,
          false_iff, not_and]
        exact fun _ hfixed harrears => absurd ⟨hfixed, harrears⟩ hcharges
    · rw [if_neg htenths, hcount]
      by_cases hunits : 16 < ceilDiv f.tenths sch.cap + (if rekey = true then 2 else 0)
      · rw [if_pos hunits]
        simp [hmax, hle, htenths, hunits, eq_comm]
      · rw [if_neg hunits]
        simp [hmax, htenths, hunits]

/-! ### The obligation -/

/-- Settles O21. -/
theorem admissionPassesWhenEveryStepDoes : Obligations.AdmissionPassesWhenEveryStepDoes := by
  refine ⟨fun s b r p => ?_, fun s b reason first hfirst => ?_, fun sch r month rekey reason => ?_⟩
  · rw [State.admission_eq_ok]
    simp only [State.admitMeter_eq_ok, exists_and_left]
  · subst hfirst
    refine ⟨State.admission_error_first, ?_⟩
    rintro cell _ second hpass hcell rfl rfl
    rw [State.admission_of_first hpass hcell]
    refine ⟨State.admitMeter_error, fun rekey hsecond hrekey => ?_⟩
    rw [State.admitMeter_of_second hsecond hrekey]
    refine ⟨fun hplan => by rw [hplan]; rfl, fun p hplan hfails => ?_⟩
    rw [hplan]
    exact State.admitPlan_error hfails
  · refine ⟨freePlan_eq_error sch r month rekey reason, ?_⟩
    rintro tender _ rfl
    exact creditPlan_eq_error sch r tender month rekey reason

end Sys2Proof.Machine
end

section
/-! PROOFS. The vend's requests and the overtaking of a vend (R2, R5, R11, R19 to R21, R26 to R28, R116). -/

namespace Sys2Proof.Machine

/-! ### Updates of one slot after another -/

theorem State.takenBy_modSlot (s : State) (k : SlotNo) (c : RequestCode) (h : Header) (f : Slot → Slot) :
    (s.takenBy k c h).modSlot k f =
      { s with port := s.port.ended k, slots := s.slots.set k (f ((s.slot k).taken c h)) } := by
  rw [State.takenBy, State.modSlot_modSlot]
  rfl

/-- An accepted request is carried out on the slot it has taken. -/
theorem State.Accepted.handed_accept {s : State} {k : SlotNo} {i : Instr} {c : RequestCode} {h : Header}
    (a : s.Accepted k i c h) : (s.handed k).accept k i = s.takenBy k c h :=
  State.handed_accept s k a.2.1

/-! ### Admission's outcome -/

theorem State.takenBy_admission (s : State) (k : SlotNo) (c : RequestCode) (h : Header) (b : VendBody) :
    (s.takenBy k c h).admission b = s.admission b := rfl

theorem execVend_admitted {s : State} {k : SlotNo} {h : Header} {b : VendBody} {r : MeterRecord} {p : Plan}
    (a : s.Accepted k (.vend h b) .vend h) (hok : s.admission b = .ok (r, p)) :
    execVend h b s = .next ((s.takenBy k .vend h).admitVend k b r p).proceed := by
  unfold execVend
  rw [State.take_accepted a]
  dsimp only
  rw [a.handed_accept, State.takenBy_admission, hok]

theorem execVend_refused {s : State} {k : SlotNo} {h : Header} {b : VendBody} {r : Reason}
    (a : s.Accepted k (.vend h b) .vend h) (herror : s.admission b = .error r) :
    execVend h b s = .next ((s.takenBy k .vend h).refuse k (.vend h b) r) := by
  unfold execVend
  rw [State.take_accepted a]
  dsimp only
  rw [a.handed_accept, State.takenBy_admission, herror]

/-- Settles O22. -/
theorem admissionDecidesTheClaims : Obligations.AdmissionDecidesTheClaims := by
  refine ⟨fun s k h b r p a hok => (execVend_admitted a hok).trans ?_, fun s k h b r a herror =>
    (execVend_refused a herror).trans (congrArg _ (State.taken_refuse r rfl))⟩
  refine congrArg (fun u => Host.Outcome.next (State.proceed u)) ?_
  simp only [State.admitVend, State.takenBy, State.setReserved, State.reserve, State.setLock, State.modSlot, State.slot,
    State.endWrite_eq, Fin.getElem_fin, Vector.getElem_set_self, Vector.set_set, newVend, Plan.share]

/-! ### Overtaking by stage -/

section
variable {s : State} {k : SlotNo} {v : Vend} {r : Reason}

theorem Engine.unitOf_eq_some {e : Engine} {u : UnitInProgress} :
    e.unitOf k = some u ↔ e.unit = some u ∧ u.slot = k ∧ u.discarded = false := by
  simp [Engine.unitOf, Option.filter_eq_some_iff]

theorem State.overtake_ended (hv : (s.slot k).vend = some v) (h : v.pendingEnding ≠ none ∨ v.phase = .closing) :
    s.overtake k r = s := by
  unfold State.overtake
  rw [hv]
  dsimp only
  by_cases hp : v.pendingEnding.isSome = true
  · rw [if_pos hp]
  · rw [if_neg hp, h.resolve_left fun hne => hp (Option.isSome_iff_ne_none.mpr hne)]

theorem State.overtake_unqueued (hv : (s.slot k).vend = some v) (hp : v.pendingEnding = none) (hphase : v.phase = .opening)
    (hn : v.number = none) (hq : v.openQueued = false) : s.overtake k r = s.endRefused k v r := by
  unfold State.overtake
  simp [hv, hp, hphase, hn, hq]

theorem State.overtake_withdrawn (hv : (s.slot k).vend = some v) (hp : v.pendingEnding = none)
    (hphase : v.phase = .opening) (hn : v.number = none) (hq : v.openQueued = true)
    (hw : s.journal.openWithdrawable k = true) : s.overtake k r = (s.withdrawOpen k).endRefused k v r := by
  unfold State.overtake
  simp [hv, hp, hphase, hn, hq, hw]

theorem State.overtake_opening_pending (hv : (s.slot k).vend = some v) (hp : v.pendingEnding = none)
    (hphase : v.phase = .opening)
    (h : v.number ≠ none ∨ v.openQueued = true ∧ s.journal.openWithdrawable k = false) :
    s.overtake k r = s.setPendingEnding k v r := by
  unfold State.overtake
  rcases h with hn | ⟨hq, hw⟩
  · simp [hv, hp, hphase, Option.isSome_iff_ne_none.mpr hn]
  · cases hn : v.number <;> simp [hv, hp, hphase, hn, hq, hw]

theorem State.overtake_unit_pending {u : UnitInProgress} (hv : (s.slot k).vend = some v) (hp : v.pendingEnding = none)
    (hphase : v.phase = .issuing) (hu : s.engine.unitOf k = some u) (hstage : u.stage ≠ .forming) :
    s.overtake k r = s.setPendingEnding k v r := by
  unfold State.overtake
  cases hst : u.stage with
  | forming => exact absurd hst hstage
  | committing | applying => simp [hv, hp, hphase, hu, hst]

theorem State.overtake_forming {u : UnitInProgress} (hv : (s.slot k).vend = some v) (hp : v.pendingEnding = none)
    (hphase : v.phase = .issuing) (hu : s.engine.unitOf k = some u) (hstage : u.stage = .forming) :
    s.overtake k r = (s.discardUnit u).closeVend k v .partly (some r) := by
  unfold State.overtake
  simp [hv, hp, hphase, hu, hstage]

theorem State.overtake_alone (h : s.IssuingAlone k v) :
    s.overtake k r = ((s.setChannel k none).modSlot k (fun sl => { sl with state := .working })).closeVend k v .partly
      (some r) := by
  obtain ⟨hv, hphase, hp, hu⟩ := h
  unfold State.overtake
  simp [hv, hp, hphase, hu]

/-- A vend in ISSUING with no unit in progress closes PARTIAL at once, its slot WORKING and its channel cleared (R26). -/
theorem State.overtake_alone_eq (h : s.IssuingAlone k v) : s.overtake k r = { s with
    slots := s.slots.set k { s.slot k with state := .working, vend := some (v.closed .partly (some r)) }
    clock := s.clock.setChannel k none
    journal := { s.journal with queue := s.journal.queue ++ [v.endEntry k .partly (some r)] } } := by
  rw [State.overtake_alone h, State.closeVend]
  dsimp only
  rw [State.modSlot_modSlot]
  rfl

end

/-! ### Withdrawing a VEND_OPEN (R26, R116) -/

theorem Journal.headUnderProgram_iff (j : Journal) : j.headUnderProgram = true ↔
    j.failedOnce = true ∨ (∃ a n x, j.op = .program a n x) ∨ ∃ a, j.op = .voidMark a := by
  unfold Journal.headUnderProgram
  cases j.op <;> simp

theorem Journal.openWithdrawable_iff (j : Journal) (k : SlotNo) : j.openWithdrawable k = true ↔
    ∃ e ∈ if j.headUnderProgram then j.queue.drop 1 else j.queue, e.place = .slot k := by
  simp [Journal.openWithdrawable]

/-! ### The end REFUSED (R28) -/

/-- A slot with no pending change is IDLE when its work ends (R142). -/
theorem State.endWork_of_none {s : State} {k : SlotNo} (h : (s.slot k).pendingChange = none) :
    s.endWork k = s.modSlot k (fun sl => { sl with state := .idle, inHand := none }) := by
  unfold State.endWork State.finishWork
  rw [h]

theorem State.respond_eq {s : State} {k : SlotNo} {c q : Byte} (h : (s.slot k).inHand = some (c, q)) (res : Result)
    (r : Option Reason) (body : List Byte) :
    s.respond k res r body = s.modSlot k (fun sl => { sl with held := some (responseFrame c q res r body) }) := by
  unfold State.respond State.holdFrame
  rw [h]
  rfl

theorem State.endRefused_eq {s : State} {k : SlotNo} {c q : Byte} (v : Vend) (r : Reason)
    (hhand : (s.slot k).inHand = some (c, q)) (hpending : (s.slot k).pendingChange = none) :
    s.endRefused k v r = { s with
      journal := { s.journal with reserved := s.journal.reserved - v.share }
      float := { s.float with reservations := s.float.reservations.filter (fun x => x.slot != k) }
      meters := s.meters.setLock v.meter none
      slots := s.slots.set k { s.slot k with
        state := .idle, inHand := none, vend := none
        lastEnding := some ⟨none, .refused, some r, v.issued, v.undelivered⟩
        held := some (responseFrame c q .refused (some r) (beBytes 4 v.receipt)) } } := by
  unfold State.endRefused State.removeVend
  dsimp only
  rw [State.respond_eq (s := ((s.returnShare v.share).releaseReservation k).setLock v.meter none) hhand, State.modSlot_modSlot,
    State.endWork_of_none (by rw [State.modSlot_slot_same]; exact hpending), State.modSlot_modSlot]
  rfl

/-- Settles O24. -/
theorem overtakingActsByStage : Obligations.OvertakingActsByStage := by
  refine ⟨fun s k v r hv => ⟨State.overtake_ended hv, fun hp hphase hn =>
      ⟨State.overtake_unqueued hv hp hphase hn, State.overtake_withdrawn hv hp hphase hn⟩, fun hp hcase => ?_,
      fun u hp hphase hunit hslot hlive hstage => ?_, State.overtake_alone_eq⟩,
    fun j k => ⟨fun h => ?_, fun hone hprogram hmark => ?_⟩,
    fun s k v r c q => State.endRefused_eq v r⟩
  · rcases hcase with ⟨hphase, h⟩ | ⟨hphase, u, hunit, hslot, hlive, hstage⟩
    · exact State.overtake_opening_pending hv hp hphase h
    · exact State.overtake_unit_pending hv hp hphase (Engine.unitOf_eq_some.mpr ⟨hunit, hslot, hlive⟩) hstage
  · exact State.overtake_forming hv hp hphase (Engine.unitOf_eq_some.mpr ⟨hunit, hslot, hlive⟩) hstage
  · rw [Journal.openWithdrawable_iff, if_pos (j.headUnderProgram_iff.mpr h)]
  · have none_begun : ¬ j.headUnderProgram = true := by
      rw [Journal.headUnderProgram_iff]
      rintro (h | ⟨a, n, x, h⟩ | ⟨a, h⟩)
      · rw [hone] at h
        cases h
      · exact hprogram a n x h
      · exact hmark a h
    rw [Journal.openWithdrawable_iff, if_neg none_begun]

/-! ### CONTINUE, ABANDON, the lease expiry -/

section
variable {s : State} {k : SlotNo} {h : Header} {n : Nat} {v : Vend}

/-- In RUN the vend number decides CONTINUE and ABANDON (R19, R20). -/
theorem State.Running.passes_vendNo (hrun : s.Running) (hv : (s.slot k).vend = some v) :
    firstFailed ((s.handed k).vendNoChecks k n) = if v.number = some n then none else some .badField := by
  rw [State.vendNoChecks, State.Running.passes (s := s.handed k) hrun, State.handed_slot]
  simp [hv]

theorem State.leaveHeld_handed {i : Instr} {c : RequestCode} (hr : i.request = some (c, h)) :
    (s.handed k).leaveHeld k i = (s.takenBy k c h).setChannel k none := by
  unfold State.leaveHeld State.accept
  rw [hr]
  dsimp only
  rw [State.takenBy, ← State.handed_accept s k hr, State.accept, hr]
  rfl

theorem execContinueVend_accepted (a : s.Accepted k (.continueVend h n) .continueVend h) (hrun : s.Running)
    (hv : (s.slot k).vend = some v) (hn : v.number = some n) :
    execContinueVend h n s = .next (((s.takenBy k .continueVend h).setChannel k none).modSlot k (fun sl =>
      { sl with vend := sl.vend.map (fun v => { v with batch := [] }) })).proceed := by
  unfold execContinueVend
  rw [State.take_accepted a]
  dsimp only
  rw [hrun.passes_vendNo hv, if_pos hn]
  dsimp only
  rw [State.leaveHeld_handed rfl]

theorem execContinueVend_refused (a : s.Accepted k (.continueVend h n) .continueVend h) (hrun : s.Running)
    (hv : (s.slot k).vend = some v) (hn : v.number ≠ some n) :
    execContinueVend h n s = .next ((s.handed k).answerRefused k (.continueVend h n) .badField) := by
  unfold execContinueVend
  rw [State.take_accepted a]
  dsimp only
  rw [hrun.passes_vendNo hv, if_neg hn]

theorem execAbandon_accepted (a : s.Accepted k (.abandon h n) .abandon h) (hrun : s.Running)
    (hv : (s.slot k).vend = some v) (hn : v.number = some n) :
    execAbandon h n s =
      .next ((((s.takenBy k .abandon h).setChannel k none).overtake k .abandoned).journalLook) := by
  unfold execAbandon
  rw [State.take_accepted a]
  rw [hrun.passes_vendNo hv, if_pos hn]
  dsimp only
  rw [State.leaveHeld_handed rfl]

theorem execAbandon_refused (a : s.Accepted k (.abandon h n) .abandon h) (hrun : s.Running)
    (hv : (s.slot k).vend = some v) (hn : v.number ≠ some n) :
    execAbandon h n s = .next ((s.handed k).answerRefused k (.abandon h n) .badField) := by
  unfold execAbandon
  rw [State.take_accepted a]
  rw [hrun.passes_vendNo hv, if_neg hn]

theorem Clock.due_of_reached {c : Clock} {d : Nat} (hd : c.channels[k] = some d) (hle : d ≤ c.seconds) : c.due k = true := by
  unfold Clock.due
  rw [hd]
  simpa using hle

theorem execLeaseExpiry_of_due (hk : k ≠ 0) (hdue : s.clock.due k = true) :
    execLeaseExpiry k s = .next (((s.setChannel k none).overtake k .leaseExpired).journalLook) := by
  unfold execLeaseExpiry
  rw [if_pos ⟨hk, hdue⟩]

theorem Clock.setChannel_setChannel (c : Clock) (d e : Option Nat) :
    (c.setChannel k d).setChannel k e = c.setChannel k e := by
  simp [Clock.setChannel]

end

/-- A refusal with no body of a request answered at once. -/
theorem State.handed_answerRefused_nil (s : State) (k : SlotNo) {i : Instr} {c : RequestCode} {h : Header}
    (hr : i.request = some (c, h)) {r : Reason} (hbody : (s.handed k).refusalBody k i r = []) :
    (s.handed k).answerRefused k i r = { s with
      port := s.port.ended k, slots := s.slots.set k ((s.slot k).answered c h .refused (some r) []) } :=
  State.handed_answerRefused s k hr r hbody

/-- Settles O23. -/
theorem heldVendGoesOnOrEnds : Obligations.HeldVendGoesOnOrEnds := by
  refine ⟨fun s k h n v a hrun hv => ⟨fun hn => (execContinueVend_accepted a hrun hv hn).trans ?_, fun hn =>
      (execContinueVend_refused a hrun hv hn).trans (congrArg _ (State.handed_answerRefused_nil s k rfl rfl))⟩,
    fun s k h n v a hrun halone hn => (execAbandon_accepted a hrun halone.1 hn).trans ?_,
    fun s k h n v a hrun hv hn =>
      (execAbandon_refused a hrun hv hn).trans (congrArg _ (State.handed_answerRefused_nil s k rfl rfl)),
    fun s k d v hk hd hle halone => (execLeaseExpiry_of_due hk (Clock.due_of_reached hd hle)).trans ?_⟩
  · refine congrArg (fun u => Host.Outcome.next (State.proceed u)) ?_
    have hvend : ((s.slot k).taken .continueVend h).vend = some v := hv
    simp only [State.setChannel, State.takenBy, State.modSlot, State.slot, State.endWrite_eq, Fin.getElem_fin,
      Vector.getElem_set_self, Vector.set_set]
    simp only [State.slot, Fin.getElem_fin] at hvend
    rw [hvend]
    rfl
  · refine congrArg (fun u => Host.Outcome.next (State.journalLook u)) ?_
    have alone : ((s.takenBy k .abandon h).setChannel k none).IssuingAlone k v := by
      refine ⟨?_, halone.2⟩
      rw [State.setChannel_slot, State.takenBy_slot_same]
      exact halone.1
    rw [State.overtake_alone_eq alone]
    simp only [State.setChannel, Clock.setChannel_setChannel, State.takenBy, State.modSlot, State.slot,
      State.endWrite_eq, Fin.getElem_fin, Vector.getElem_set_self, Vector.set_set]
    rfl
  · refine congrArg (fun u => Host.Outcome.next (State.journalLook u)) ?_
    rw [State.overtake_alone_eq (v := v) (by exact halone)]
    simp only [State.setChannel, Clock.setChannel_setChannel]
    rfl

end Sys2Proof.Machine
end

section
/-! PROOFS. The admin requests that pass their checks (R37, R57, R65 to R71, R82, R83, R98 to R102, R119, R130, R131,
R142 to R147, R151, R161). -/

namespace Sys2Proof.Machine

/-! ### A request that passes -/

/-- An admin request in RUN whose own checks pass passes its table when the Journal takes its entry (R120, R166). -/
theorem State.adminChecks_pass {s : State} (hrun : s.Running) (htakes : s.TakesEntry) {own : List (Bool × Reason)}
    (hown : firstFailed own = none) : firstFailed (s.partChecks ++ own ++ s.journalChecks) = none := by
  obtain ⟨hmode, hroom⟩ := htakes
  rw [List.append_assoc, hrun.passes, firstFailed_append, hown]
  simp [State.journalChecks, hmode, hroom]

theorem State.queueAdmin_eq (s : State) (k : SlotNo) (b : EntryBody) : s.queueAdmin k b = State.journalLook { s with
    slots := s.slots.set k { s.slot k with admin := some ⟨some b, .queued⟩ }
    journal := { s.journal with
      reserved := s.journal.reserved + 1, queue := s.journal.queue ++ [⟨.slot k, k, true, b⟩] } } := rfl

/-- What a passed admin request leaves when its entry is all it leaves. -/
theorem State.takenBy_queueAdmin (s : State) (k : SlotNo) (c : RequestCode) (h : Header) (b : EntryBody) :
    (s.takenBy k c h).queueAdmin k b = (s.queuedFor k c h b).journalLook := by
  rw [State.queueAdmin_eq, State.takenBy_slot_same]
  simp only [State.takenBy, State.modSlot, Vector.set_set]
  rfl

/-- The same with the lock of the meter taken first (R57). -/
theorem State.takenBy_setLock_queueAdmin (s : State) (k : SlotNo) (c : RequestCode) (h : Header) (m : Nat)
    (o : Option SlotNo) (b : EntryBody) : ((s.takenBy k c h).setLock m o).queueAdmin k b =
      State.journalLook { s.queuedFor k c h b with meters := s.meters.setLock m o } := by
  rw [State.queueAdmin_eq, State.setLock_slot, State.takenBy_slot_same]
  simp only [State.takenBy, State.modSlot, State.setLock, Vector.set_set]
  rfl

/-- The same with a pending change marked on another slot first (R143, R147). -/
theorem State.takenBy_modSlot_queueAdmin (s : State) {k t : SlotNo} (c : RequestCode) (h : Header) (f : Slot → Slot)
    (b : EntryBody) (ht : t ≠ k) : ((s.takenBy k c h).modSlot t f).queueAdmin k b =
      State.journalLook ((s.queuedFor k c h b).modSlot t f) := by
  have htk : t.val ≠ k.val := fun e => ht (Fin.ext e)
  have hkt : k.val ≠ t.val := fun e => htk e.symm
  rw [State.queueAdmin_eq, State.modSlot_slot_other _ _ ht.symm, State.takenBy_slot_same]
  simp only [State.takenBy, State.modSlot, State.queuedFor, State.slot, Fin.getElem_fin, State.endWrite_eq,
    Vector.getElem_set_ne _ _ hkt]
  rw [Vector.set_comm _ _ htk, Vector.set_set]

theorem Clock.entryTime_eq (c : Clock) : c.entryTime = if c.state = .running then c.seconds else 0 := by
  unfold Clock.entryTime
  cases c.state <;> rfl

/-! ### SHIFT_CLOSE, CLOCK_SET, BIND -/

theorem SlotClass.ofBindCode_eq {code : Nat} {cls : SlotClass}
    (h : code = 1 ∧ cls = .supervisor ∨ code = 2 ∧ cls = .cashier) : SlotClass.ofBindCode code = some cls := by
  rcases h with ⟨rfl, rfl⟩ | ⟨rfl, rfl⟩ <;> rfl

theorem targetSlot_val (t : SlotNo) : targetSlot t.val = t := Fin.ext (Nat.mod_eq_of_lt t.isLt)

theorem deskInRange_of_ne_zero {t : SlotNo} (ht : t ≠ 0) : 1 ≤ t.val ∧ t.val ≤ 7 := by
  have : t.val ≠ 0 := fun e => ht (Fin.ext e)
  omega

/-- Settles O25. -/
theorem slotAndClockRequestsQueueTheirEntries : Obligations.SlotAndClockRequestsQueueTheirEntries := by
  refine ⟨fun s k h a hrun htakes => ?_, fun s k h seconds month a hrun htakes hsec hstep => ?_,
    fun s k t h b cls a hrun htakes ht htarget htag hcls hperms hlease hsuper hunbound hpending hfree => ?_⟩
  · have pass : firstFailed (s.partChecks ++ [] ++ s.journalChecks) = none := State.adminChecks_pass hrun htakes rfl
    refine congrArg _ ((State.takeWork_passed a pass).trans ?_)
    rw [State.takenBy_slot_same]
    exact State.takenBy_queueAdmin s k _ h _
  · have pass : firstFailed (s.clockSetChecks seconds) = none := State.adminChecks_pass hrun htakes (by
      rcases hstep with hunset | hle
      · simp [hsec, hunset]
      · simp [hsec, hle])
    rw [← Clock.entryTime_eq]
    exact congrArg _ ((State.takeWork_passed a pass).trans (State.takenBy_queueAdmin s k _ h _))
  · have hslot : targetSlot b.target = t := htarget ▸ targetSlot_val t
    have htk : t ≠ k := fun e => a.2.2.1 (e ▸ hunbound)
    have hrange : Machine.BindBody.inRange b = true := by
      rw [BindBody.inRange_iff]
      refine ⟨htarget ▸ (deskInRange_of_ne_zero ht).1, htarget ▸ (deskInRange_of_ne_zero ht).2, htag, ?_, hlease⟩
      exact hcls.imp (fun ⟨h, e⟩ => ⟨h, e ▸ hperms⟩) fun ⟨h, e⟩ => ⟨h, e ▸ hperms⟩
    have hmay : (s.slot k).mayBind b = true := by
      rw [Slot.mayBind_iff]
      intro hs
      obtain ⟨hcash, hown⟩ := hsuper hs
      exact ⟨(hcls.resolve_left fun e => by cases e.2.symm.trans hcash).1, hown⟩
    have pass : firstFailed (s.bindChecks k b) = none :=
      State.adminChecks_pass hrun htakes (by simp [hrange, hmay, hslot, hunbound, hpending, hfree])
    have hentry : BindBody.entry b = ⟨t, b.tag, cls, b.perms, if b.lease = 0 then 120 else b.lease⟩ := by
      simp [BindBody.entry, hslot, SlotClass.ofBindCode_eq hcls]
    refine congrArg _ ((State.takeWork_passed a ((a.takenBy_bindChecks b).symm ▸ pass)).trans ?_)
    rw [hslot, hentry]
    exact State.takenBy_modSlot_queueAdmin s _ h _ _ htk

/-! ### UNBIND -/

/-- An UNBIND that waits: its entry slot is reserved and its operation recorded (R147). -/
def State.unbindWaits (s : State) (k t : SlotNo) (h : Header) : State :=
  { s with
    port := s.port.ended k
    slots := s.slots.set k { (s.slot k).taken .unbind h with admin := some ⟨some (.unbind t), .waiting⟩ }
    journal := { s.journal with reserved := s.journal.reserved + 1 } }.modSlot t
      (fun sl => { sl with pendingChange := some (.unbindBy k) })

section
variable {s : State} {k t : SlotNo} {h : Header}

theorem State.unbindWaits_slot (htk : t ≠ k) :
    (s.unbindWaits k t h).slot t = { s.slot t with pendingChange := some (.unbindBy k) } := by
  have hkt : k.val ≠ t.val := fun e => htk (Fin.ext e.symm)
  rw [State.unbindWaits, State.modSlot_slot_same]
  simp [State.slot, hkt]

/-- The state in which an UNBIND of another slot waits, as passUnbind reaches it. -/
theorem State.unbindWaits_eq (htk : t ≠ k) :
    (((s.takenBy k .unbind h).modSlot t fun sl => { sl with pendingChange := some (.unbindBy k) }).claimEntry.modSlot k
      fun sl => { sl with admin := some ⟨some (.unbind t), .waiting⟩ }) = s.unbindWaits k t h := by
  have hv : t.val ≠ k.val := fun e => htk (Fin.ext e)
  have hkt : k.val ≠ t.val := fun e => hv e.symm
  simp only [State.unbindWaits, State.claimEntry, State.setReserved, State.takenBy, State.modSlot, State.slot,
    State.endWrite_eq, Fin.getElem_fin, Vector.getElem_set_self, Vector.getElem_set_ne _ _ hv,
    Vector.getElem_set_ne _ _ hkt]
  rw [Vector.set_comm _ _ hv, Vector.set_set]

theorem State.passUnbind_self (s : State) (k : SlotNo) (h : Header) :
    (s.takenBy k .unbind h).passUnbind k k = State.journalLook ((s.queuedFor k .unbind h (.unbind k)).modSlot k
      (fun sl => { sl with pendingChange := some (.unbindBy k) })) := by
  unfold State.passUnbind
  dsimp only
  rw [if_pos rfl, State.queueAdmin_eq, State.modSlot_slot_same, State.takenBy_slot_same]
  simp only [State.takenBy, State.modSlot, State.queuedFor, State.slot, Fin.getElem_fin, State.endWrite_eq,
    Vector.getElem_set_self, Vector.set_set]

/-- An UNBIND of another slot, by what the target has under way (R147). -/
theorem State.passUnbind_other (htk : t ≠ k) : (s.takenBy k .unbind h).passUnbind k t =
    if (s.slot t).vend.isSome then ((s.unbindWaits k t h).overtake t .unbound).journalLook
    else if (s.slot t).admin.isSome then (s.unbindWaits k t h).journalLook
    else State.journalLook ((s.queuedFor k .unbind h (.unbind t)).modSlot t
      (fun sl => { sl with pendingChange := some (.unbindBy k), state := .working, inHand := some unbindInHand })) := by
  unfold State.passUnbind
  dsimp only
  rw [if_neg htk, State.modSlot_slot_same, State.takenBy_slot_other _ _ _ htk, State.unbindWaits_eq htk,
    State.modSlot_modSlot, State.takenBy_modSlot_queueAdmin _ _ _ _ _ htk]

theorem execUnbind_accepted (a : s.Accepted k (.unbind h t.val) .unbind h) (hrun : s.Running) (htakes : s.TakesEntry)
    (ht : t ≠ 0) (hmay : (s.slot k).cls = some .supervisor → t = k ∨ (s.slot t).cls = some .cashier)
    (hbound : (s.slot t).state ≠ .unbound) (hpending : (s.slot t).pendingChange = none) :
    execUnbind h t.val s = .next ((s.takenBy k .unbind h).passUnbind k t) := by
  have hslot := targetSlot_val t
  have hrange := (deskInRange_iff t.val).mpr (deskInRange_of_ne_zero ht)
  have pass : firstFailed (s.unbindChecks k t.val) = none :=
    State.adminChecks_pass hrun htakes (by simp [hrange, hslot, (s.mayUnbind_iff k t).mpr hmay, hbound, hpending])
  refine congrArg _ ((State.takeWork_passed a ((a.takenBy_unbindChecks t.val).symm ▸ pass)).trans ?_)
  rw [hslot]

end

/-- Settles O26, by what the target has under way. -/
theorem unbindMarksItsTarget : Obligations.UnbindMarksItsTarget := by
  intro s k t h a hrun htakes ht hmay hbound hpending
  have hexec := execUnbind_accepted a hrun htakes ht hmay hbound hpending
  refine ⟨fun htk => hexec.trans (congrArg _ ?_), fun htk hv ha => hexec.trans (congrArg _ ?_),
    fun htk hv ha => hexec.trans (congrArg _ ?_), fun v htk hv => hexec.trans (congrArg _ ?_),
    fun v htk halone => hexec.trans (congrArg _ ?_)⟩
  · subst htk
    exact State.passUnbind_self s t h
  · rw [State.passUnbind_other htk, hv, ha]
    rfl
  · rw [State.passUnbind_other htk, hv, Option.isSome_iff_ne_none.mpr ha]
    rfl
  · rw [State.passUnbind_other htk, hv]
    rfl
  · have alone : (s.unbindWaits k t h).IssuingAlone t v := by
      refine ⟨?_, halone.2⟩
      rw [State.unbindWaits_slot htk]
      exact halone.1
    have hkt : k.val ≠ t.val := fun e => htk (Fin.ext e.symm)
    rw [State.passUnbind_other htk, halone.1, Option.isSome_some, if_pos rfl, State.overtake_alone_eq alone,
      State.unbindWaits_slot htk]
    refine congrArg State.journalLook ?_
    simp only [State.unbindWaits, State.modSlot, State.slot, Fin.getElem_fin, Vector.set_set,
      Vector.getElem_set_ne _ _ hkt]

/-! ### Meter requests -/

theorem MeterState.getD_ofCode {code : Nat} {st : MeterState} (h : MeterState.ofCode code = some st) :
    (MeterState.ofCode code).getD .active = st := by
  rw [h]
  rfl

/-- Settles O27. -/
theorem meterRequestsTakeTheLock : Obligations.MeterRequestsTakeTheLock := by
  intro s k h m cell hrun htakes hlow hhigh hcell hfree
  have hrange := (meterInRange_iff m).mpr ⟨hlow, hhigh⟩
  have hknown : s.known m = true := by simp [State.known, hcell]
  have hlock : s.lockFree m = true := by simp [State.lockFree, hcell, hfree]
  refine ⟨fun code st hst a => ?_, fun a => ?_, ?_⟩
  · have pass : firstFailed (s.meterHoldChecks m code) = none :=
      State.adminChecks_pass hrun htakes (by simp [hrange, hst, hknown, hlock])
    refine congrArg _ ((State.takeWork_passed a pass).trans ?_)
    rw [MeterState.getD_ofCode hst]
    exact State.takenBy_setLock_queueAdmin s k _ h m _ _
  · have pass : firstFailed (s.retireChecks m) = none :=
      State.adminChecks_pass hrun htakes (by simp [hrange, hknown, hlock])
    exact congrArg _ ((State.takeWork_passed a pass).trans (State.takenBy_setLock_queueAdmin s k _ h m _ _))
  · rintro b rfl hbody hseq hmove a
    have hmeet : s.changesMeet b = true := by
      rw [State.changesMeet_iff]
      intro c hc
      cases hcell.symm.trans hc
      exact ⟨hseq, hmove⟩
    have pass : firstFailed (s.meterUpdateChecks b) = none :=
      State.adminChecks_pass hrun htakes (by simp [hbody, hknown, hlock, hmeet])
    exact congrArg _ ((State.takeWork_passed a pass).trans (State.takenBy_setLock_queueAdmin s k _ h _ _ _))

/-! ### ENROL -/

/-- What one entry does to the sequence floor under way. -/
def floorStep (meter revision m : Nat) (e : Entry) : Nat :=
  match e.body with
  | .token t => if t.meter = meter ∧ t.revision = revision then max m t.seq else m
  | _ => m

theorem floorStep_ge (meter revision m : Nat) (e : Entry) : m ≤ floorStep meter revision m e := by
  unfold floorStep
  split
  · split
    · exact Nat.le_max_left _ _
    · exact Nat.le_refl _
  · exact Nat.le_refl _

theorem floorStep_token {meter revision : Nat} (m : Nat) {e : Entry} {t : TokenEntry} (hb : e.body = .token t)
    (hm : t.meter = meter) (hr : t.revision = revision) : t.seq ≤ floorStep meter revision m e := by
  simp [floorStep, hb, hm, hr]

theorem floorStep_eq (meter revision m : Nat) (e : Entry) : floorStep meter revision m e = m ∨
    ∃ t : TokenEntry, e.body = .token t ∧ t.meter = meter ∧ t.revision = revision ∧
      t.seq = floorStep meter revision m e := by
  unfold floorStep
  split
  · rename_i t ht
    split
    · rename_i hmr
      rcases Nat.le_total t.seq m with hle | hle
      · exact .inl (Nat.max_eq_left hle)
      · exact .inr ⟨t, ht, hmr.1, hmr.2, (Nat.max_eq_right hle).symm⟩
    · exact .inl rfl
  · exact .inl rfl

theorem foldl_floorStep_ge (meter revision : Nat) (l : List Entry) (m : Nat) :
    m ≤ l.foldl (floorStep meter revision) m := by
  induction l generalizing m with
  | nil => exact Nat.le_refl _
  | cons e l ih => exact (floorStep_ge meter revision m e).trans (ih _)

theorem foldl_floorStep_bound {meter revision : Nat} {l : List Entry} {e : Entry} {t : TokenEntry} (he : e ∈ l)
    (hb : e.body = .token t) (hm : t.meter = meter) (hr : t.revision = revision) (m : Nat) :
    t.seq ≤ l.foldl (floorStep meter revision) m := by
  induction l generalizing m with
  | nil => cases he
  | cons x l ih =>
    rcases List.mem_cons.mp he with rfl | he
    · exact (floorStep_token m hb hm hr).trans (foldl_floorStep_ge _ _ _ _)
    · exact ih he _

theorem foldl_floorStep_reached (meter revision : Nat) (l : List Entry) (m : Nat) :
    l.foldl (floorStep meter revision) m = m ∨ ∃ (e : Entry) (t : TokenEntry), e ∈ l ∧ e.body = .token t ∧
      t.meter = meter ∧ t.revision = revision ∧ t.seq = l.foldl (floorStep meter revision) m := by
  induction l generalizing m with
  | nil => exact .inl rfl
  | cons x l ih =>
    rw [List.foldl_cons]
    rcases ih (floorStep meter revision m x) with hkept | ⟨e, t, he, hrest⟩
    · rw [hkept]
      exact (floorStep_eq meter revision m x).imp_right fun ⟨t, hb, hrest⟩ => ⟨x, t, List.mem_cons_self, hb, hrest⟩
    · exact .inr ⟨e, t, List.mem_cons_of_mem _ he, hrest⟩

/-- Settles O28. -/
theorem enrolQueuesTheRecord : Obligations.EnrolQueuesTheRecord := by
  refine ⟨fun s k h b st a hrun htakes hclock hrange hst hnew hroom => ?_, fun j meter revision =>
    ⟨fun e t he hb hm hr => foldl_floorStep_bound he hb hm hr 0, foldl_floorStep_reached meter revision j.entries 0⟩⟩
  have hlock : s.lockFree b.meter = true := by simp [State.lockFree, hnew]
  have hknown : s.known b.meter = false := by simp [State.known, hnew]
  have pass : firstFailed (s.enrolChecks b) = none :=
    State.adminChecks_pass hrun htakes (by simp [hclock, hrange, hlock, hknown, hroom])
  rw [← MeterState.getD_ofCode hst]
  exact congrArg _ ((State.takeWork_passed a pass).trans (State.takenBy_queueAdmin s k _ h _))

/-! ### TARIFF_LOAD, KEY_LOAD -/

/-- Settles O29. -/
theorem loadsSetLoading : Obligations.LoadsSetLoading := by
  refine ⟨fun s k h b a hrun htakes hrange => ?_, fun s k h b a hrun htakes hgroup hrev hnext hfree => ?_⟩
  · have pass : firstFailed (s.partChecks ++ [(b.inRange, .badField)] ++ s.journalChecks) = none :=
      State.adminChecks_pass hrun htakes (by simp [hrange])
    refine congrArg _ ((State.takeWork_passed a pass).trans ?_)
    rw [State.queueAdmin_eq, State.modSchedule_slot, State.takenBy_slot_same]
    simp only [State.takenBy, State.modSlot, State.modSchedule, Vector.set_set]
    rfl
  · have pass : firstFailed (s.keyLoadChecks b) = none :=
      State.adminChecks_pass hrun htakes (by simp [(s.keyInRange_iff b).mpr ⟨hgroup, hrev, hnext⟩, hfree])
    refine congrArg _ ((State.takeWork_passed a (State.takenBy_keyLoadChecks s k _ h b ▸ pass)).trans ?_)
    simp only [State.passKeyLoad, State.claimEntry, State.setReserved, State.modKey, State.takenBy, State.modSlot,
      State.slot, State.endWrite_eq, Fin.getElem_fin, Vector.getElem_set_self, Vector.set_set]

/-! ### GRANT_OPEN, GRANT, RECALL -/

section
variable {s : State} {k : SlotNo} {h : Header}

theorem execGrantOpen_accepted {c d : BitVec 32} (a : s.Accepted k (.grantOpen h c d) .grantOpen h) (hrun : s.Running) :
    execGrantOpen h c d s = .next (
      if s.grantCode c d then ((s.handed k).setWindow true).answer k (.grantOpen h c d) .done none []
      else ((s.handed k).setWindow false).answerRefused k (.grantOpen h c d) .grantCheck) := by
  have pass : firstFailed (s.handed k).partChecks = none := hrun.passes []
  unfold execGrantOpen
  rw [State.take_accepted a, pass]
  rfl

theorem State.grantCode_iff (c d : BitVec 32) : s.grantCode c d = true ↔ c = s.float.officeCode ∧ d = ~~~c := by
  simp [State.grantCode, and_comm]

/-- A GRANT is carried out on its taken slot with the window shut (R99). -/
theorem execGrant_accepted {b : GrantBody} (a : s.Accepted k (.grant h b) .grant h) :
    execGrant h b s = .next (
      match firstFailed (s.grantChecks s.float.windowOpen b) with
      | some r => ((s.setWindow false).takenBy k .grant h).refuse k (.grant h b) r
      | none => ((s.setWindow false).takenBy k .grant h).queueAdmin k
          (.grant b.number b.amount.toNat b.ceiling b.expiry)) := by
  have taken : ((s.handed k).setWindow false).accept k (.grant h b) = (s.setWindow false).takenBy k .grant h := by
    rw [State.takenBy, ← State.handed_accept (s.setWindow false) k (i := .grant h b) rfl]
    rfl
  unfold execGrant
  rw [State.take_accepted a]
  dsimp only
  rw [taken]
  rfl

/-- Settles O30. -/
theorem floatRequestsTakeEffect : Obligations.FloatRequestsTakeEffect := by
  refine ⟨fun s k h c d a hrun => (execGrantOpen_accepted a hrun).trans (congrArg _ ?_),
    fun s k h b a hrun htakes hopen hcomp hamount hceiling hlast hnumber hbalance =>
      (execGrant_accepted a).trans (congrArg _ ?_),
    fun s k h b r a hfails => (execGrant_accepted a).trans (congrArg _ ?_),
    fun s k h amount a hrun htakes hlow hhigh hcovers => ?_⟩
  · by_cases hcode : c = s.float.officeCode ∧ d = ~~~c
    · rw [if_pos (State.grantCode_iff c d |>.mpr hcode), if_pos hcode]
      exact State.handed_answer (s.setWindow true) k (i := .grantOpen h c d) rfl _ _ _
    · rw [if_neg (fun e => hcode (State.grantCode_iff c d |>.mp e)), if_neg hcode]
      exact State.handed_answerRefused_nil (s.setWindow false) k (i := .grantOpen h c d) rfl rfl
  · have pass : firstFailed (s.grantChecks s.float.windowOpen b) = none := by
      have hnone := State.adminChecks_pass hrun htakes (own := [(b.complement == ~~~b.amount, .grantCheck),
        (decide (b.amount.toNat ≤ amountLimit) && decide (b.ceiling ≤ floatLimit), .badField),
        (decide (s.float.work.lastGrant < max32) && b.number == s.float.work.lastGrant + 1, .grantOrder),
        (decide (s.float.work.balance + b.amount.toNat * 100 ≤ b.ceiling), .ceiling)])
        (by simp [hcomp, show b.amount.toNat ≤ amountLimit from hamount, show b.ceiling ≤ floatLimit from hceiling, hlast,
          hnumber, hbalance])
      rw [State.grantChecks, hopen]
      exact hnone
    rw [pass]
    exact State.takenBy_queueAdmin (s.setWindow false) k _ h _
  · rw [hfails]
    exact State.taken_refuse (s := s.setWindow false) r rfl
  · have pass : firstFailed (s.recallChecks amount) = none := by
      rw [State.recallChecks, firstFailed_append, State.adminChecks_pass hrun htakes
        (by simp [show amount ≤ amountLimit from hhigh, hlow])]
      simp [(s.float.covers_iff _).mpr hcovers]
    refine congrArg _ ((State.takeWork_passed a pass).trans ?_)
    rw [State.queueAdmin_eq, State.reserve_slot, State.takenBy_slot_same]
    simp only [State.takenBy, State.modSlot, State.reserve, Vector.set_set]
    rfl

end

/-! ### SETTLE -/

/-- No open vend at or below the number: nothing clips the settle (R131). -/
theorem State.clippingVend_none {s : State} {n : Nat} (h : ∀ v ∈ s.openVends, n < v) : s.clippingVend n = none := by
  rw [State.clippingVend, List.filter_eq_nil_iff.mpr]
  · rfl
  · intro v hv
    simpa using h v hv

/-- The lowest open vend at or below the number clips the settle (R131). -/
theorem State.clippingVend_some {s : State} {n v : Nat} (hv : v ∈ s.openVends) (hle : v ≤ n)
    (hlow : ∀ w ∈ s.openVends, w ≤ n → v ≤ w) : s.clippingVend n = some v := by
  rw [State.clippingVend, List.min?_eq_some_iff]
  refine ⟨List.mem_filter.mpr ⟨hv, decide_eq_true hle⟩, fun w hw => ?_⟩
  obtain ⟨hopen, hwn⟩ := List.mem_filter.mp hw
  exact hlow w hopen (of_decide_eq_true hwn)

theorem State.openVends_congr {s t : State} (h : ∀ j, (t.slot j).vend = (s.slot j).vend) : t.openVends = s.openVends := by
  have hlist : t.slots.toList.map (·.vend) = s.slots.toList.map (·.vend) := by
    refine List.ext_getElem (by simp) fun i hi _ => ?_
    have := h ⟨i, by simpa using hi⟩
    simpa [State.slot] using this
  have each : ∀ l : List Slot, l.filterMap (fun sl => sl.vend.bind (·.number)) =
      (l.map (·.vend)).filterMap (fun v => v.bind (·.number)) := fun l => by
    rw [List.filterMap_map]
    rfl
  rw [State.openVends, State.openVends, each, each, hlist]

theorem execSettle_accepted {s : State} {k : SlotNo} {h : Header} {n : Nat} (a : s.Accepted k (.settle h n) .settle h)
    (hrun : s.Running) (hmode : s.journal.mode = .normal) (hmark : s.journal.mark ≤ n) (hlast : n ≤ s.journal.last) :
    execSettle h n s = .next { s with
      port := s.port.ended k
      slots := s.slots.set k { (s.slot k).taken .settle h with admin := some ⟨none, .header⟩ }
      journal := { s.journal with
        header := some ⟨n, (s.clippingVend n).elim n (· - 1), s.clippingVend n⟩ } } := by
  have pass : firstFailed (s.settleChecks n) = none := by
    rw [State.settleChecks, hrun.passes]
    simp [hmark, hlast, hmode]
  have clip : (s.takenBy k .settle h).clippingVend n = s.clippingVend n := by
    rw [State.clippingVend, State.clippingVend,
      State.openVends_congr (s.takenBy_field Slot.vend k .settle h fun _ => rfl)]
  refine congrArg _ ((State.takeWork_passed a pass).trans ?_)
  unfold State.passSettle
  rw [clip, State.takenBy_modSlot]

/-- A request with no pending change on its slot has its DONE and its slot is IDLE (R142). -/
theorem State.adminDone_eq {s : State} {k : SlotNo} {c q : Byte} (hhand : (s.slot k).inHand = some (c, q))
    (hpending : (s.slot k).pendingChange = none) (body : List Byte) :
    s.adminDone k body = s.modSlot k (fun sl => sl.done c q body) := by
  unfold State.adminDone
  rw [State.respond_eq hhand, State.modSlot_modSlot,
    State.endWork_of_none (by rw [State.modSlot_slot_same]; exact hpending), State.modSlot_modSlot]
  rfl

theorem execSettleHeaderWriteCompletion_of_header {s : State} {w : HeaderWrite} (hw : s.journal.header = some w) :
    execSettleHeaderWriteCompletion s =
      .next ((State.adminDone { s with journal := { s.journal with mark := w.target, header := none } } 0
        ({ s.journal with mark := w.target, header := none }.settleBody w)).journalLook) := by
  unfold execSettleHeaderWriteCompletion
  rw [hw]

/-- Settles O31. -/
theorem settleWritesTheMark : Obligations.SettleWritesTheMark := by
  refine ⟨fun s k h n a hrun hmode hmark hlast => ⟨fun hnone => ?_, fun v hv hle hlow => ?_⟩,
    fun s w c q hw hhand hpending => (execSettleHeaderWriteCompletion_of_header hw).trans ?_⟩
  · refine (execSettle_accepted a hrun hmode hmark hlast).trans ?_
    rw [State.clippingVend_none hnone]
    rfl
  · refine (execSettle_accepted a hrun hmode hmark hlast).trans ?_
    rw [State.clippingVend_some hv hle hlow]
    rfl
  · exact congrArg (fun u => Host.Outcome.next (State.journalLook u)) (State.adminDone_eq
      (s := { s with journal := { s.journal with mark := w.target, header := none } }) hhand hpending _)

end Sys2Proof.Machine
end

section
/-! PROOFS. The journal's store and what the Journal begins (R109 to R113, R117, R118, R121 to R127, R173, R174, R179). -/

namespace Sys2Proof.Machine

/-! ### Contents of entry slots -/

theorem Journal.put_content (j : Journal) (a b : Nat) (c : SlotContent) :
    (j.put a c).content b = if b = a then some c.judged else j.content b := by
  rw [Journal.content, Journal.put_cell]
  split <;> rfl

theorem Journal.blankPage_content (j : Journal) (p b : Nat) :
    (j.blankPage p).content b = if b / 32 = p then none else j.content b := by
  rw [Journal.content, Journal.blankPage_cell]
  split <;> rfl

theorem Journal.content_eq_none {j : Journal} {a : Nat} : j.content a = none ↔ ∀ c ∈ j.store, c.1 ≠ a := by
  simp only [Journal.content, Journal.cell, Option.map_eq_none_iff, List.find?_eq_none, beq_iff_eq, ne_eq]

theorem Journal.mem_pageCells {j : Journal} {p : Nat} {c : Nat × SlotContent} :
    c ∈ j.pageCells p ↔ c ∈ j.store ∧ c.1 / 32 = p := by
  simp [Journal.pageCells]

theorem Journal.pageSlots_length (j : Journal) (p : Nat) : (j.pageSlots p).length = (j.pageCells p).length := by
  simp [Journal.pageSlots, judgedSlots]

theorem Journal.content_of_pageSlots_nil {j : Journal} {p a : Nat} (h : j.pageSlots p = []) (ha : a / 32 = p) :
    j.content a = none := by
  have hnil : j.pageCells p = [] := by simpa [Journal.pageSlots, judgedSlots] using h
  refine Journal.content_eq_none.mpr fun c hc e => ?_
  have hmem : c ∈ j.pageCells p := Journal.mem_pageCells.mpr ⟨hc, e ▸ ha⟩
  rw [hnil] at hmem
  cases hmem

/-- A page with fewer than 32 entry slots in use has a blank one. -/
theorem Journal.exists_blank {j : Journal} {p : Nat} (h : j.blankCount p ≠ 0) :
    ∃ i < 32, j.content (p * 32 + i) = none := by
  by_contra hfull
  simp only [not_exists, not_and] at hfull
  have used : ∀ i ∈ List.range 32, p * 32 + i ∈ (j.pageCells p).map (·.1) := by
    intro i hi
    have hi := List.mem_range.mp hi
    have hsome := hfull i hi
    rw [Journal.content_eq_none] at hsome
    simp only [ne_eq, not_forall, not_not] at hsome
    obtain ⟨c, hc, hca⟩ := hsome
    refine List.mem_map.mpr ⟨c, Journal.mem_pageCells.mpr ⟨hc, ?_⟩, hca⟩
    omega
  have nodup : ((List.range 32).map (p * 32 + ·)).Nodup :=
    List.Nodup.map (fun a b e => Nat.add_left_cancel e) List.nodup_range
  have sub : (List.range 32).map (p * 32 + ·) ⊆ (j.pageCells p).map (·.1) := by
    intro a ha
    obtain ⟨i, hi, rfl⟩ := List.mem_map.mp ha
    exact used i hi
  have hle := (nodup.subperm sub).length_le
  simp only [List.length_map, List.length_range] at hle
  rw [Journal.blankCount, Journal.pageSlots_length] at h
  exact h (Nat.sub_eq_zero_of_le hle)

/-! ### The pages in order (R110) -/

theorem find_map_range_eq_some {f : Nat → Nat} {P : Nat → Bool} {n p : Nat} :
    ((List.range n).map f).find? P = some p ↔
      ∃ i < n, p = f i ∧ P p = true ∧ ∀ i' < i, P (f i') = false := by
  rw [List.find?_map, Option.map_eq_some_iff]
  simp only [List.find?_range_eq_some, Function.comp_apply, List.mem_range, Bool.not_eq_true']
  constructor
  · rintro ⟨i, ⟨hp, hi, hbefore⟩, rfl⟩
    exact ⟨i, hi, rfl, hp, hbefore⟩
  · rintro ⟨i, hi, rfl, hp, hbefore⟩
    exact ⟨i, ⟨hp, hi, hbefore⟩, rfl⟩

theorem mem_circularFrom {tail : Option Nat} {p : Nat} : p ∈ circularFrom tail ↔ p < 128 := by
  simp only [circularFrom, List.mem_map, List.mem_range]
  generalize tail.elim 0 (· + 1) = start
  refine ⟨fun ⟨i, _, h⟩ => h ▸ Nat.mod_lt _ (by decide), fun hp => ⟨(p + 128 - start % 128) % 128, ?_, ?_⟩⟩
  · exact Nat.mod_lt _ (by decide)
  · change (start + (p + 128 - start % 128) % 128) % 128 = p
    omega

theorem Journal.find_circular {j : Journal} {st : PageState} {p : Nat} :
    (circularFrom j.tail).find? (fun q => j.pageState q == st) = some p ↔ j.FirstInOrder st p := by
  rw [circularFrom, find_map_range_eq_some]
  simp only [Journal.FirstInOrder, beq_iff_eq, beq_eq_false_iff_ne]

theorem Journal.find_circular_none {j : Journal} {st : PageState} :
    (circularFrom j.tail).find? (fun q => j.pageState q == st) = none ↔ ∀ p < 128, j.pageState p ≠ st := by
  simp only [List.find?_eq_none, mem_circularFrom, beq_iff_eq, ne_eq]

/-! ### Page states -/

theorem Journal.blankCount_of_filling {j : Journal} {p : Nat} (h : j.pageState p = .filling) : j.blankCount p ≠ 0 := by
  unfold Journal.pageState at h
  split at h
  · cases h
  · split at h
    · cases h
    · split at h
      · rename_i hfilling
        exact hfilling.2
      · split at h
        · cases h
        · split at h <;> cases h

theorem Journal.pageSlots_of_erased {j : Journal} {p : Nat} (h : j.pageState p = .erased) : j.pageSlots p = [] := by
  unfold Journal.pageState at h
  split at h
  · cases h
  · split at h
    · cases h
    · split at h
      · cases h
      · split at h
        · assumption
        · split at h <;> cases h

/-! ### The entry slot at hand -/

theorem Journal.lowestBlank_eq_some {j : Journal} {p a : Nat} (h : j.lowestBlank p = some a) :
    a / 32 = p ∧ j.content a = none ∧ ∀ b < a, b / 32 = p → j.content b ≠ none := by
  obtain ⟨i, hi, ha, hblank, hbefore⟩ := find_map_range_eq_some.mp h
  have hi : i < 32 := hi
  have ha : a = p * 32 + i := ha
  refine ⟨by omega, Option.isNone_iff_eq_none.mp hblank, fun b hb hp => ?_⟩
  have hused := hbefore (b % 32) (by omega)
  have hb : p * slotsPerPage + b % 32 = b := by
    change p * 32 + b % 32 = b
    omega
  rw [hb] at hused
  intro hnone
  rw [hnone] at hused
  cases hused

theorem Journal.lowestBlank_isSome {j : Journal} {p : Nat} (h : j.blankCount p ≠ 0) : j.lowestBlank p ≠ none := by
  obtain ⟨i, hi, hnone⟩ := Journal.exists_blank h
  intro hfind
  rw [Journal.lowestBlank, List.find?_eq_none] at hfind
  exact hfind (p * 32 + i) (List.mem_map.mpr ⟨i, List.mem_range.mpr hi, rfl⟩) (by rw [hnone]; rfl)

/-- The first FILLING page, if any. -/
def Journal.fillingPage (j : Journal) : Option Nat :=
  (List.range pageCount).find? (fun p => j.pageState p == .filling)

theorem Journal.fillingPage_eq_none {j : Journal} : j.fillingPage = none ↔ ∀ p < 128, j.pageState p ≠ .filling := by
  simp only [Journal.fillingPage, List.find?_eq_none, List.mem_range, beq_iff_eq, ne_eq]

theorem Journal.pageState_of_fillingPage {j : Journal} {p : Nat} (h : j.fillingPage = some p) :
    j.pageState p = .filling := by
  have hp := List.find?_some h
  exact beq_iff_eq.mp hp

theorem Journal.slotAtHand_of_filling {j : Journal} {p : Nat} (h : j.fillingPage = some p) :
    j.slotAtHand = j.lowestBlank p := by
  rw [Journal.fillingPage] at h
  rw [Journal.slotAtHand, h]

theorem Journal.slotAtHand_of_no_filling {j : Journal} (h : j.fillingPage = none) :
    j.slotAtHand = ((circularFrom j.tail).find? (fun p => j.pageState p == .erased)).map (· * 32) := by
  rw [Journal.fillingPage] at h
  rw [Journal.slotAtHand, h]

theorem Journal.slotAtHand_eq_some {j : Journal} {a : Nat} (h : j.slotAtHand = some a) :
    j.content a = none ∧
      (j.pageState (a / 32) = .filling ∧ (∀ b, b < a → b / 32 = a / 32 → j.content b ≠ none) ∨
        a % 32 = 0 ∧ (∀ p < 128, j.pageState p ≠ .filling) ∧ j.FirstInOrder .erased (a / 32)) := by
  cases hfill : j.fillingPage with
  | some p =>
    rw [Journal.slotAtHand_of_filling hfill] at h
    obtain ⟨hpage, hblank, hlow⟩ := Journal.lowestBlank_eq_some h
    subst hpage
    exact ⟨hblank, .inl ⟨Journal.pageState_of_fillingPage hfill, hlow⟩⟩
  | none =>
    rw [Journal.slotAtHand_of_no_filling hfill] at h
    obtain ⟨p, hp, rfl⟩ := Option.map_eq_some_iff.mp h
    have hpage : p * 32 / 32 = p := by omega
    have herased := List.find?_some hp
    have herased : j.pageState p = .erased := beq_iff_eq.mp herased
    refine ⟨Journal.content_of_pageSlots_nil (Journal.pageSlots_of_erased herased) hpage, .inr ⟨by omega, ?_, ?_⟩⟩
    · exact Journal.fillingPage_eq_none.mp hfill
    · rw [hpage]
      exact Journal.find_circular.mp hp

theorem Journal.slotAtHand_eq_none {j : Journal} :
    j.slotAtHand = none ↔ ∀ p < 128, j.pageState p ≠ .filling ∧ j.pageState p ≠ .erased := by
  cases hfill : j.fillingPage with
  | some p =>
    have hp := Journal.pageState_of_fillingPage hfill
    have hlt : p < 128 := List.mem_range.mp (List.mem_of_find?_eq_some hfill)
    rw [Journal.slotAtHand_of_filling hfill]
    exact ⟨fun h => absurd h (Journal.lowestBlank_isSome (Journal.blankCount_of_filling hp)),
      fun h => absurd hp (h p hlt).1⟩
  | none =>
    have hno := Journal.fillingPage_eq_none.mp hfill
    rw [Journal.slotAtHand_of_no_filling hfill, Option.map_eq_none_iff, Journal.find_circular_none]
    exact ⟨fun h p hp => ⟨hno p hp, h p hp⟩, fun h p hp => (h p hp).2⟩

/-- Settles O32. -/
theorem entrySlotAtHandIsBlank : Obligations.EntrySlotAtHandIsBlank :=
  ⟨fun _ _ => Journal.slotAtHand_eq_some, fun _ => Journal.slotAtHand_eq_none, fun _ _ => Journal.find_circular,
    fun _ => Journal.find_circular_none, Journal.put_content, Journal.blankPage_content⟩

/-! ### What the Journal begins -/

section
variable {s : State}

/-- With the store idle in NORMAL mode and the scan not paused the Journal looks at its head, or for a trigger erase. -/
theorem State.journalLook_idle (hmode : s.journal.mode = .normal) (hop : s.journal.op = .idle)
    (hpaused : s.paused = false) :
    s.journalLook = match s.journal.queue with
      | _ :: _ => s.headLook
      | [] => s.triggerLook := by
  exact if_pos ⟨hmode, hop, hpaused⟩

theorem State.journalLook_head (hmode : s.journal.mode = .normal) (hop : s.journal.op = .idle)
    (hpaused : s.paused = false) (hqueue : s.journal.queue ≠ []) : s.journalLook = s.headLook := by
  rw [State.journalLook_idle hmode hop hpaused]
  cases hq : s.journal.queue with
  | nil => exact absurd hq hqueue
  | cons e rest => rfl

theorem State.journalLook_trigger (hmode : s.journal.mode = .normal) (hop : s.journal.op = .idle)
    (hpaused : s.paused = false) (hqueue : s.journal.queue = []) : s.journalLook = s.triggerLook := by
  rw [State.journalLook_idle hmode hop hpaused, hqueue]

theorem State.headLook_at_hand {a : Nat} (ha : s.journal.slotAtHand = some a) :
    s.headLook = if s.journal.last = max32 then s.enterFailed else s.beginProgram a := by
  unfold State.headLook
  rw [ha]

theorem State.headLook_settled {p : Nat} (ha : s.journal.slotAtHand = none) (hp : s.journal.oldestSettled = some p) :
    s.headLook = if s.applyHold then s else s.beginErase p := by
  unfold State.headLook
  rw [ha, hp]

theorem State.headLook_none (ha : s.journal.slotAtHand = none) (hp : s.journal.oldestSettled = none) :
    s.headLook = if s.watch.part = .starting then s.enterFailed else s := by
  unfold State.headLook
  rw [ha, hp]

theorem State.triggerLook_erase {p : Nat} (hrun : s.watch.part = .run) (hhold : s.applyHold = false)
    (hfew : s.journal.erasedPages < 4) (hp : s.journal.oldestSettled = some p) : s.triggerLook = s.beginErase p := by
  unfold State.triggerLook
  rw [if_pos ⟨hrun, hhold, hfew⟩, hp]

theorem State.triggerLook_none (h : s.watch.part ≠ .run ∨ s.applyHold = true ∨ 4 ≤ s.journal.erasedPages ∨
    s.journal.oldestSettled = none) : s.triggerLook = s := by
  unfold State.triggerLook
  split
  · rename_i hcond
    obtain ⟨hrun, hhold, hfew⟩ := hcond
    have hnone : s.journal.oldestSettled = none := by
      rcases h with h | h | h | h
      · exact absurd hrun h
      · rw [hhold] at h
        cases h
      · omega
      · exact h
    rw [hnone]
  · rfl

end

/-- Settles O33, by the queue, the entry slot at hand and the oldest SETTLED page. -/
theorem journalBeginsItsNextOperation : Obligations.JournalBeginsItsNextOperation := by
  intro s hmode hop hpaused
  have head := State.journalLook_head hmode hop hpaused
  have trigger := State.journalLook_trigger hmode hop hpaused
  refine ⟨fun a hqueue ha hlast => ?_, fun a hqueue ha hlast => ?_, fun p hqueue ha hp => ?_, fun hqueue ha hp => ?_,
    fun p hqueue hrun hhold hfew hp => ?_, fun hqueue h => ?_⟩
  · rw [head hqueue, State.headLook_at_hand ha, if_neg hlast, ← Clock.entryTime_eq]
    rfl
  · rw [head hqueue, State.headLook_at_hand ha, if_pos hlast]
  · rw [head hqueue, State.headLook_settled ha hp]
    rfl
  · rw [head hqueue, State.headLook_none ha hp]
  · rw [trigger hqueue, State.triggerLook_erase hrun hhold hfew hp]
    rfl
  · rw [trigger hqueue, State.triggerLook_none h]

/-! ### The completion of a program -/

theorem execProgramCompletion_verified {s : State} {a n time : Nat} {e : QEntry} {rest : List QEntry}
    (hop : s.journal.op = .program a n time) (hqueue : s.journal.queue = e :: rest) :
    execProgramCompletion true s = .next (s.commit a n time e).returnToRun.proceed := by
  unfold execProgramCompletion
  rw [hop, hqueue]
  rfl

theorem execProgramCompletion_failed {s : State} {a n time : Nat} (hop : s.journal.op = .program a n time) :
    execProgramCompletion false s = .next (s.programFails a) := by
  unfold execProgramCompletion
  rw [hop]
  rfl

theorem Journal.commit_eq {j : Journal} {e : QEntry} {rest : List QEntry} (hqueue : j.queue = e :: rest)
    (a n time : Nat) : j.commit a n time e = { j with
      store := putCell j.store a (.written (Entry.sealed n e.slot time e.body)), last := n, op := .idle
      failedOnce := false, queue := rest
      reserved := if e.reserved = true then j.reserved - 1 else j.reserved } := by
  unfold Journal.commit
  rw [hqueue]
  rfl

/-- Settles O35. -/
theorem programCommitsItsEntry : Obligations.ProgramCommitsItsEntry := by
  refine ⟨fun s a n time e rest hop hqueue => (execProgramCompletion_verified hop hqueue).trans ?_, ?_, fun e => ?_⟩
  · rw [State.commit, Journal.commit_eq hqueue]
  · rintro n k time b _ rfl
    exact ⟨entryBytes_length n k time b, rfl⟩
  · by_cases h : e.check = check16 (entryBytes e.number e.slot e.time e.body)
    · rw [if_pos h]
      exact if_pos (beq_iff_eq.mpr h)
    · rw [if_neg h]
      exact if_neg (fun hb => h (beq_iff_eq.mp hb))

/-! ### Void marks -/

theorem execVoidMarkCompletion_of_op {s : State} {a : Nat} (hop : s.journal.op = .voidMark a) :
    execVoidMarkCompletion s = .next (
      match s.watch.scan.stage with
      | .voiding rest => (State.setStage { s with journal := { s.journal.put a .void with op := .idle } }
          (.voiding (rest.drop 1))).proceed
      | _ => State.afterVoidMark { s with journal := { s.journal.put a .void with op := .idle } }) := by
  unfold execVoidMarkCompletion
  rw [hop] <;> rfl

theorem execVoidMarkCompletion_outside {s : State} {a : Nat} (hop : s.journal.op = .voidMark a)
    (hstage : ∀ rest, s.watch.scan.stage ≠ .voiding rest) :
    execVoidMarkCompletion s =
      .next (State.afterVoidMark { s with journal := { s.journal.put a .void with op := .idle } }) := by
  rw [execVoidMarkCompletion_of_op hop]
  split
  · rename_i rest h
    exact absurd h (hstage rest)
  · rfl

theorem Journal.promisesTooMuch_iff (j : Journal) : j.promisesTooMuch = true ↔ j.obtainable < j.reserved :=
  decide_eq_true_iff

/-- A program that does not verify, on the journal it leaves before its void mark (R121, R125). -/
theorem State.programFails_eq {s : State} {a : Nat} {j : Journal}
    (hj : j = { s.journal.put a .halfWritten with op := .idle }) : s.programFails a =
      State.beginVoidMark (if j.promisesTooMuch then State.enterFailed { s with journal := j }
        else { s with journal := j }) a := by
  subst hj
  rfl

/-- Settles O36. -/
theorem failedProgramIsVoided : Obligations.FailedProgramIsVoided := by
  refine ⟨?_, ?_⟩
  · intro s a n time j hop hj
    have hexec := execProgramCompletion_failed hop
    rw [State.programFails_eq hj] at hexec
    refine ⟨fun hkept => ?_, fun t hbroken ht => ?_⟩
    · rw [if_neg (fun h => absurd (j.promisesTooMuch_iff.mp h) (by omega))] at hexec
      exact hexec
    · rw [if_pos (j.promisesTooMuch_iff.mpr hbroken), ← ht] at hexec
      exact hexec
  · rintro s a j hop rfl
    refine ⟨fun rest hstage => ?_, fun hstage => ?_⟩
    · refine (execVoidMarkCompletion_of_op hop).trans ?_
      rw [hstage]
      rfl
    · have hexec := execVoidMarkCompletion_outside hop hstage
      refine ⟨fun hmode => hexec.trans (congrArg _ ?_), fun hmode honce => hexec.trans (congrArg _ ?_),
        fun hmode honce => hexec.trans (congrArg _ ?_)⟩
      all_goals
        have hmode' : (s.journal.put a .void).mode = s.journal.mode := rfl
        unfold State.afterVoidMark
        simp only [hmode', hmode]
      · exact if_pos honce
      · exact if_neg (by simp [Journal.put, honce])

/-! ### Erases and worn marks -/

theorem foldl_put_other {cells : List (Nat × SlotContent)} {b : Nat} (h : ∀ c ∈ cells, c.1 ≠ b) (j : Journal) :
    (cells.foldl (fun j c => j.put c.1 c.2) j).content b = j.content b := by
  induction cells generalizing j with
  | nil => rfl
  | cons c l ih =>
    rw [List.foldl_cons, ih (fun x hx => h x (List.mem_cons_of_mem _ hx)), Journal.put_content,
      if_neg (h c List.mem_cons_self).symm]

theorem foldl_put_eq (cells : List (Nat × SlotContent)) (j : Journal) :
    cells.foldl (fun j c => j.put c.1 c.2) j =
      { j with store := (cells.foldl (fun j c => j.put c.1 c.2) j).store } := by
  induction cells generalizing j with
  | nil => rfl
  | cons c l ih => rw [List.foldl_cons, ih]; rfl

/-- A page that is set leaves every entry slot of another page as it was. -/
theorem Journal.setPage_content_other {j : Journal} {p b : Nat} {cells : List (Nat × SlotContent)}
    (h : ∀ c ∈ cells, c.1 / 32 = p) (hb : b / 32 ≠ p) : (j.setPage p cells).content b = j.content b := by
  rw [Journal.setPage, foldl_put_other (fun c hc e => hb (by rw [← e]; exact h c hc)), Journal.blankPage_content, if_neg hb]

/-- A page that is set changes the store alone. -/
theorem Journal.setPage_eq (j : Journal) (p : Nat) (cells : List (Nat × SlotContent)) :
    j.setPage p cells = { j with store := (j.setPage p cells).store } := foldl_put_eq cells (j.blankPage p)

theorem tearPage_page {j : Journal} {p : Nat} {torn : Nat → TornErase} {c : Nat × SlotContent}
    (h : c ∈ j.tearPage p torn) : c.1 / 32 = p := by
  obtain ⟨i, hi, hc⟩ := List.mem_filterMap.mp h
  have hi : i < 32 := List.mem_range.mp hi
  have hpage : (p * slotsPerPage + i) / 32 = p := by
    change (p * 32 + i) / 32 = p
    omega
  dsimp only at hc
  split at hc
  · obtain ⟨x, -, rfl⟩ := Option.map_eq_some_iff.mp hc
    exact hpage
  · cases hc
  · cases hc
    exact hpage

theorem partErase_page {j : Journal} {p : Nat} {torn : Nat → TornErase} {c : Nat × SlotContent}
    (h : c ∈ j.partErase p torn) : c.1 / 32 = p := by
  unfold Journal.partErase at h
  dsimp only at h
  split at h
  · rcases putCell_mem h with rfl | h
    · change p * 32 / 32 = p
      omega
    · exact tearPage_page h
  · exact tearPage_page h

section
variable {s : State} {p : Nat}

theorem execEraseCompletion_verified (hop : s.journal.op = .erase p) : execEraseCompletion true s =
    .next (State.nextErase { s with journal := { s.journal.blankPage p with op := .idle } }).proceed := by
  unfold execEraseCompletion
  rw [hop]
  rfl

theorem execEraseCompletion_failed (hop : s.journal.op = .erase p) : execEraseCompletion false s = .next { s with
    journal := { s.journal.setPage p (s.journal.partErase p (Config.failedErase s.free)) with op := .wornMark p }
    free := s.free + 1 } := by
  unfold execEraseCompletion
  rw [hop]
  rfl

theorem execWornMarkWriteCompletion_of_op {j : Journal} (hop : s.journal.op = .wornMark p)
    (hj : j = { s.journal.wearPage p with op := .idle }) : execWornMarkWriteCompletion s = .next (
      if j.promisesTooMuch then State.enterFailed { s with journal := j }
      else (State.nextErase { s with journal := j }).proceed) := by
  unfold execWornMarkWriteCompletion
  rw [hop, hj]

theorem State.nextErase_outside (h : ∀ rest, s.watch.scan.stage ≠ .erasing rest) (j : Journal) :
    State.nextErase { s with journal := j } = { s with journal := j } := by
  unfold State.nextErase
  dsimp only
  split
  · rename_i rest hst
    exact absurd hst (h rest)
  · rfl

theorem State.nextErase_erasing {rest : List Nat} (h : s.watch.scan.stage = .erasing (p :: rest)) (j : Journal) :
    State.nextErase { s with journal := j } = { s with
      journal := j, watch := { s.watch with scan := { s.watch.scan with stage := .erasing rest } } } := by
  unfold State.nextErase
  dsimp only
  rw [h]
  rfl

theorem Journal.mem_wearPage_worn (j : Journal) (p q : Nat) :
    q ∈ (j.wearPage p).worn ↔ q < 128 ∧ (q = p ∨ q ∈ j.worn) := by
  simp [Journal.wearPage]

end

/-- Settles O37. -/
theorem erasesBlankOrWearTheirPage : Obligations.ErasesBlankOrWearTheirPage := by
  refine ⟨fun s p hop => ⟨fun hstage => ?_, fun rest hstage => ?_, ?_⟩, fun s p j hop hj => ?_⟩
  · exact (execEraseCompletion_verified hop).trans
      (congrArg (fun u => Host.Outcome.next (State.proceed u)) (State.nextErase_outside hstage _))
  · exact (execEraseCompletion_verified hop).trans
      (congrArg (fun u => Host.Outcome.next (State.proceed u)) (State.nextErase_erasing hstage _))
  · refine ⟨_, execEraseCompletion_failed hop, ?_, fun a ha => ?_⟩
    · rw [Journal.setPage_eq]
    · exact Journal.setPage_content_other (fun c hc => partErase_page hc) ha
  · have hexec := execWornMarkWriteCompletion_of_op hop hj
    refine ⟨?_, fun hbroken => ?_, fun hkept hstage => ?_, fun rest hkept hstage => ?_⟩
    · rw [hj]
      exact s.journal.mem_wearPage_worn p
    · rw [if_pos (j.promisesTooMuch_iff.mpr hbroken)] at hexec
      exact hexec
    · rw [if_neg (fun h => absurd (j.promisesTooMuch_iff.mp h) (by omega)), State.nextErase_outside hstage] at hexec
      exact hexec
    · rw [if_neg (fun h => absurd (j.promisesTooMuch_iff.mp h) (by omega)), State.nextErase_erasing hstage] at hexec
      exact hexec

end Sys2Proof.Machine
end

section
/-! PROOFS. The frames of requests (R188 to R190): what is laid out in bytes is read back. -/

namespace Sys2Proof

/-! ### Numbers in bytes -/

theorem foldl_beBytes (w n a : Nat) :
    (beBytes w n).foldl (fun a b => a * 256 + b.toNat) a = a * 256 ^ w + n % 256 ^ w := by
  induction w generalizing a with
  | zero => simp [beBytes, Nat.mod_one]
  | succ w ih =>
    rw [beBytes, List.foldl_cons, ih, BitVec.toNat_ofNat]
    have hmod : n % 256 ^ (w + 1) = n / 256 ^ w % 256 * 256 ^ w + n % 256 ^ w := by
      rw [pow_succ, Nat.mod_mul, Nat.add_comm, Nat.mul_comm]
    rw [hmod]
    change (a * 256 + n / 256 ^ w % 256) * 256 ^ w + n % 256 ^ w = _
    ring

/-- A number that fits its width is read back from its bytes. -/
theorem beNat_beBytes {w n : Nat} (h : n < 256 ^ w) : beNat (beBytes w n) = n := by
  rw [beNat, foldl_beBytes, Nat.mod_eq_of_lt h]
  omega

/-- Fields that fit their widths are read back from their bytes, whatever follows. -/
theorem splitFields_joinFields {ws vs : List Nat} (h : fieldsFit ws vs = true) (rest : List Byte) :
    splitFields ws (joinFields ws vs ++ rest) = vs := by
  induction ws generalizing vs with
  | nil =>
    cases vs with
    | nil => rfl
    | cons v vs => cases h
  | cons w ws ih =>
    cases vs with
    | nil => cases h
    | cons v vs =>
      simp only [fieldsFit, Bool.and_eq_true, decide_eq_true_eq] at h
      have hw : (beBytes w v).length = w := Machine.beBytes_length w v
      rw [joinFields, splitFields, List.append_assoc, List.take_left' hw, List.drop_left' hw, beNat_beBytes h.1, ih h.2]

theorem joinFields_length {ws vs : List Nat} (h : fieldsFit ws vs = true) : (joinFields ws vs).length = ws.sum := by
  induction ws generalizing vs with
  | nil => cases vs <;> rfl
  | cons w ws ih =>
    cases vs with
    | nil => cases h
    | cons v vs =>
      simp only [fieldsFit, Bool.and_eq_true] at h
      rw [joinFields, List.length_append, Machine.beBytes_length, ih h.2, List.sum_cons]

/-! ### The request of a frame -/

theorem RequestCode.ofByte_byte (c : RequestCode) : RequestCode.ofByte c.byte = some c := by
  cases c <;> rfl

/-- A request is the one with its code, header and fields. -/
theorem Instr.ofFields_fields {i : Instr} {c : RequestCode} {h : Header} (hr : i.request = some (c, h)) :
    Instr.ofFields c h i.fields = some i := by
  cases i <;> cases hr <;> simp [Instr.ofFields, Instr.fields]

/-- The bytes of a request's frame before its check. -/
def frameFront (c : RequestCode) (h : Header) (fs : List Nat) : List Byte :=
  beBytes 4 h.tag.toNat ++ [c.byte, h.seq] ++ joinFields c.widths fs

theorem encodeFrame_of_request {i : Instr} {c : RequestCode} {h : Header} (hr : i.request = some (c, h)) :
    encodeFrame i = frameFront c h i.fields ++ beBytes 2 (check16 (frameFront c h i.fields)).toNat := by
  rw [encodeFrame, hr]
  rfl

theorem frameFront_length (c : RequestCode) (h : Header) {fs : List Nat} (hf : fieldsFit c.widths fs = true) :
    (frameFront c h fs).length = 6 + c.widths.sum := by
  simp only [frameFront, List.length_append, Machine.beBytes_length, joinFields_length hf, List.length_cons,
    List.length_nil]

/-- A frame laid out as R188 and R189 say spells what its front holds. -/
theorem parseFrame_front (c : RequestCode) (h : Header) {fs : List Nat} (hf : fieldsFit c.widths fs = true) :
    parseFrame (frameFront c h fs ++ beBytes 2 (check16 (frameFront c h fs)).toNat) = Instr.ofFields c h fs := by
  have hlen := frameFront_length c h hf
  have hcheck : (beBytes 2 (check16 (frameFront c h fs)).toNat).length = 2 := Machine.beBytes_length _ _
  generalize hrest : beBytes 2 (check16 (frameFront c h fs)).toNat = rest at hcheck ⊢
  have htotal : (frameFront c h fs ++ rest).length = 8 + c.widths.sum := by
    rw [List.length_append, hlen, hcheck]
    omega
  have hcut : 8 + c.widths.sum - 2 = (frameFront c h fs).length := by omega
  have hcode : (frameFront c h fs ++ rest).getD 4 0 = c.byte := rfl
  have hseq : (frameFront c h fs ++ rest).getD 5 0 = h.seq := rfl
  have htag : beNat ((frameFront c h fs ++ rest).take 4) = h.tag.toNat := by
    rw [frameFront, List.append_assoc, List.append_assoc, List.take_left' (Machine.beBytes_length _ _)]
    exact beNat_beBytes (by have := h.tag.isLt; omega)
  have hbody : (frameFront c h fs).drop 6 = joinFields c.widths fs := List.drop_left' (by simp [Machine.beBytes_length])
  have hfields := splitFields_joinFields hf []
  rw [List.append_nil] at hfields
  unfold parseFrame
  rw [htotal, if_neg (by omega), hcut]
  simp only [List.drop_left, List.take_left, hrest, if_true, hcode, RequestCode.ofByte_byte, hseq, htag, hbody, hfields,
    BitVec.ofNat_toNat, BitVec.setWidth_eq]

/-- Settles O11. -/
theorem requestFramesRoundTrip : Obligations.RequestFramesRoundTrip := by
  intro i hwell hrequest
  obtain ⟨⟨c, h⟩, hr⟩ := Option.isSome_iff_exists.mp hrequest
  have hfit : fieldsFit c.widths i.fields = true := by
    unfold WellFormed at hwell
    split at hwell
    · cases hr
    · rw [hr] at hwell
      exact hwell
  rw [encodeFrame_of_request hr, parseFrame_front c h hfit, Instr.ofFields_fields hr]

end Sys2Proof
end

section
/-! PROOFS. The engine's grants (R10 to R12, R14), the plain token record (R73, R74), the transform of a unit (R75, R76,
R79, R158) and its completion (R14, R15). -/

namespace Sys2Proof.Machine

/-! ### Work at the engine -/

theorem Engine.unitOf_isNone_iff (e : Engine) (k : SlotNo) :
    (e.unitOf k).isNone = true ↔ ∀ u, e.unit = some u → u.slot = k → u.discarded = true := by
  rw [Option.isNone_iff_eq_none, Engine.unitOf, Option.filter_eq_none_iff]
  refine forall_congr' fun u => forall_congr' fun _ => ?_
  cases u.discarded <;> simp

theorem State.hasWork_iff (s : State) (k : SlotNo) : s.hasWork k = true ↔ k ≠ 0 ∧ (s.slot k).state = .working ∧ ∃ v,
    (s.slot k).vend = some v ∧ v.pendingEnding = none ∧
      (v.phase = .opening ∧ v.openQueued = false ∨
        v.phase = .issuing ∧ v.issued < v.plan.units.length ∧
          ∀ u, s.engine.unit = some u → u.slot = k → u.discarded = true) := by
  unfold State.hasWork
  rw [Bool.and_eq_true, Bool.and_eq_true, bne_iff_ne, beq_iff_eq, and_assoc]
  refine and_congr_right fun _ => and_congr_right fun _ => ?_
  cases hv : (s.slot k).vend with
  | none => simp
  | some v => cases hphase : v.phase <;> simp [hphase, ← Engine.unitOf_isNone_iff]

/-! ### One grant -/

/-- What a grant of the engine can be: an opening turn of a vend in OPENING, or a unit of a vend in ISSUING (R11). -/
theorem State.grant?_cases {s t : State} (h : s.grant? = some t) : s.Running ∧ s.engine.unit = none ∧
    ∃ k v, (searchOrder s.engine.position).find? s.hasWork = some k ∧ s.hasWork k = true ∧ (s.slot k).vend = some v ∧
      (v.phase = .opening ∧ t = s.openingTurn k v ∨ v.phase = .issuing ∧ t = s.grantUnit k v) := by
  unfold State.grant? at h
  split at h
  · rename_i hidle
    refine ⟨hidle.1, hidle.2, ?_⟩
    split at h
    · cases h
    · rename_i k hk
      have hwork : s.hasWork k = true := List.find?_some hk
      split at h
      · cases h
      · rename_i v hv
        refine ⟨k, v, hk, hwork, hv, ?_⟩
        split at h
        · rename_i hphase
          exact .inl ⟨hphase, (Option.some.inj h).symm⟩
        · rename_i hphase
          exact .inr ⟨hphase, (Option.some.inj h).symm⟩
        · cases h
  · cases h

section
variable {s : State} {k : SlotNo} {v : Vend}

theorem State.grant?_of_find (hrun : s.Running) (hidle : s.engine.unit = none)
    (hfind : (searchOrder s.engine.position).find? s.hasWork = some k) (hv : (s.slot k).vend = some v) :
    s.grant? = match v.phase with
      | .opening => some (s.openingTurn k v)
      | .issuing => some (s.grantUnit k v)
      | .closing => none := by
  unfold State.grant?
  rw [if_pos ⟨hrun, hidle⟩, hfind]
  dsimp only
  rw [hv] <;> rfl

theorem State.grant?_none (h : ¬ s.Running ∨ s.engine.unit ≠ none ∨ ∀ k : SlotNo, s.hasWork k = false) :
    s.grant? = none := by
  cases hg : s.grant? with
  | none => rfl
  | some t =>
    obtain ⟨hrun, hidle, k, v, -, hwork, -⟩ := State.grant?_cases hg
    rcases h with h | h | h
    · exact absurd hrun h
    · exact absurd hidle h
    · rw [h k] at hwork
      cases hwork

theorem State.grants_of_none (h : s.grant? = none) (n : Nat) : State.grants n s = s := by
  cases n with
  | zero => rfl
  | succ n =>
    unfold State.grants
    rw [h]

theorem State.grants_succ {t : State} (h : s.grant? = some t) (n : Nat) : State.grants (n + 1) s = State.grants n t := by
  rw [State.grants, h]

theorem State.grantUnit_eq {u : PlanUnit} {c : MeterCell} (hu : v.plan.units[v.issued]? = some u)
    (hc : s.meters.lookup v.meter = some c) : s.grantUnit k v = { s with
      engine := ⟨k, some ⟨k, v.issued, c.record.lastSeq + 1, .forming, false⟩⟩
      former := { s.former with transform := some (s.transformFor c.record u) } } := by
  unfold State.grantUnit
  rw [hu, hc]

/-! ### The look's end -/

/-- The slots with work at the engine. -/
def State.workers (s : State) : Finset SlotNo := Finset.univ.filter (fun k => s.hasWork k = true)

theorem State.mem_workers : k ∈ s.workers ↔ s.hasWork k = true := by simp [State.workers]

theorem State.card_workers_lt (s : State) : s.workers.card < 8 := by
  have zero : (0 : SlotNo) ∉ s.workers := by
    rw [State.mem_workers]
    simp [State.hasWork]
  have sub : s.workers ⊂ Finset.univ := ⟨Finset.subset_univ _, fun h => zero (h (Finset.mem_univ _))⟩
  simpa using Finset.card_lt_card sub

@[simp] theorem State.openingTurn_slot_same (s : State) (k : SlotNo) (v : Vend) :
    (s.openingTurn k v).slot k = { s.slot k with vend := some { v with openQueued := true } } := by
  unfold State.openingTurn
  dsimp only
  rw [State.enqueue_slot, State.modSlot_slot_same]
  rfl

theorem State.openingTurn_slot_other (s : State) {j k : SlotNo} (v : Vend) (hj : j ≠ k) :
    (s.openingTurn k v).slot j = s.slot j := by
  unfold State.openingTurn
  dsimp only
  rw [State.enqueue_slot, State.modSlot_slot_other _ _ hj]
  rfl

/-- An opening turn leaves the slot without work and gives no other slot any. -/
theorem State.openingTurn_workers (hidle : s.engine.unit = none) (hwork : s.hasWork k = true)
    (hphase : v.phase = .opening) : (s.openingTurn k v).workers ⊂ s.workers := by
  have gone : (s.openingTurn k v).hasWork k = false := by
    rw [Bool.eq_false_iff, Ne, State.hasWork_iff]
    rintro ⟨-, -, w, hw, -, hcase⟩
    rw [State.openingTurn_slot_same] at hw
    cases hw
    rcases hcase with ⟨-, h⟩ | ⟨h, -⟩
    · cases h
    · cases hphase.symm.trans h
  refine ⟨fun j hj => ?_, fun h => ?_⟩
  · rw [State.mem_workers] at hj ⊢
    have hjk : j ≠ k := by
      rintro rfl
      rw [gone] at hj
      cases hj
    rw [State.hasWork_iff] at hj ⊢
    rw [State.openingTurn_slot_other s v hjk] at hj
    obtain ⟨h0, hst, w, hw, hp, hcase⟩ := hj
    refine ⟨h0, hst, w, hw, hp, hcase.imp_right fun ⟨hi, hlt, _⟩ => ⟨hi, hlt, fun u hu => ?_⟩⟩
    rw [hidle] at hu
    cases hu
  · have := State.mem_workers.mp (h (State.mem_workers.mpr hwork))
    rw [gone] at this
    cases this

/-- Every vend's meter is in the table. -/
def State.MetersKnown (s : State) : Prop :=
  ∀ (k : SlotNo) (v : Vend), (s.slot k).vend = some v → s.meters.lookup v.meter ≠ none

theorem State.MetersKnown.openingTurn (h : s.MetersKnown) (hv : (s.slot k).vend = some v) :
    (s.openingTurn k v).MetersKnown := by
  intro j w hw
  by_cases hj : j = k
  · subst hj
    rw [State.openingTurn_slot_same] at hw
    cases hw
    exact h j v hv
  · rw [State.openingTurn_slot_other s v hj] at hw
    exact h j w hw

/-- A unit grant of a vend with work takes the engine. -/
theorem State.grantUnit_busy (h : s.MetersKnown) (hv : (s.slot k).vend = some v) (hwork : s.hasWork k = true)
    (hphase : v.phase = .issuing) : (s.grantUnit k v).engine.unit ≠ none := by
  obtain ⟨-, -, w, hw, -, hcase⟩ := (State.hasWork_iff s k).mp hwork
  cases hv.symm.trans hw
  have hlt : v.issued < v.plan.units.length := by
    rcases hcase with ⟨hopen, -⟩ | ⟨-, hlt, -⟩
    · cases hphase.symm.trans hopen
    · exact hlt
  obtain ⟨c, hc⟩ := Option.ne_none_iff_exists'.mp (h k v hv)
  rw [State.grantUnit_eq (List.getElem?_eq_getElem hlt) hc]
  exact Option.some_ne_none _

/-- With more grants allowed than slots have work, the last look finds none. -/
theorem State.grants_end (n : Nat) (s : State) (hknown : s.MetersKnown) (hn : s.workers.card < n) :
    (State.grants n s).grant? = none := by
  induction n generalizing s with
  | zero => omega
  | succ n ih =>
    cases hg : s.grant? with
    | none => rw [State.grants_of_none hg, hg]
    | some t =>
      obtain ⟨-, hidle, k, v, -, hwork, hv, ⟨hphase, rfl⟩ | ⟨hphase, rfl⟩⟩ := State.grant?_cases hg
      · rw [State.grants_succ hg]
        have hless := Finset.card_lt_card (State.openingTurn_workers hidle hwork hphase)
        exact ih _ (hknown.openingTurn hv) (by omega)
      · have hbusy := State.grant?_none (.inr (.inl (State.grantUnit_busy hknown hv hwork hphase)))
        rw [State.grants_succ hg, State.grants_of_none hbusy, hbusy]

end

/-! ### What the look leaves alone -/

/-- What the engine's look leaves alone: everything but the engine, the transform, the slots' vends and the queue, which
grows at its tail. -/
structure EngineOnly (s t : State) : Prop where
  blocks : t.watch = s.watch ∧ t.port = s.port ∧ t.tariff = s.tariff ∧ t.meters = s.meters ∧ t.float = s.float ∧
    t.clock = s.clock ∧ t.free = s.free ∧ t.pending = s.pending ∧ t.former.keys = s.former.keys ∧
    t.former.keyWrite = s.former.keyWrite
  queue  : ∃ more, t.journal = { s.journal with queue := s.journal.queue ++ more }
  slots  : ∀ k : SlotNo, t.slot k = { s.slot k with vend := (t.slot k).vend }

theorem EngineOnly.refl (s : State) : EngineOnly s s :=
  ⟨⟨rfl, rfl, rfl, rfl, rfl, rfl, rfl, rfl, rfl, rfl⟩, ⟨[], by rw [List.append_nil]⟩, fun _ => rfl⟩

theorem EngineOnly.trans {s t u : State} (h : EngineOnly s t) (g : EngineOnly t u) : EngineOnly s u := by
  obtain ⟨⟨a1, a2, a3, a4, a5, a6, a7, a8, a9, a10⟩, ⟨more, hmore⟩, hslots⟩ := h
  obtain ⟨⟨b1, b2, b3, b4, b5, b6, b7, b8, b9, b10⟩, ⟨more', hmore'⟩, hslots'⟩ := g
  refine ⟨⟨b1.trans a1, b2.trans a2, b3.trans a3, b4.trans a4, b5.trans a5, b6.trans a6, b7.trans a7, b8.trans a8,
    b9.trans a9, b10.trans a10⟩, ⟨more ++ more', ?_⟩, fun k => ?_⟩
  · rw [hmore', hmore, List.append_assoc]
  · rw [hslots' k, hslots k]

theorem engineOnly_openingTurn (s : State) (k : SlotNo) (v : Vend) : EngineOnly s (s.openingTurn k v) := by
  refine ⟨⟨rfl, rfl, rfl, rfl, rfl, rfl, rfl, rfl, rfl, rfl⟩, ⟨[_], rfl⟩, fun j => ?_⟩
  by_cases hj : j = k
  · subst hj
    rw [State.openingTurn_slot_same]
  · rw [State.openingTurn_slot_other s v hj]

theorem engineOnly_grantUnit (s : State) (k : SlotNo) (v : Vend) : EngineOnly s (s.grantUnit k v) := by
  unfold State.grantUnit
  split
  · exact ⟨⟨rfl, rfl, rfl, rfl, rfl, rfl, rfl, rfl, rfl, rfl⟩, ⟨[], by rw [List.append_nil]⟩, fun _ => rfl⟩
  · exact EngineOnly.refl s

theorem engineOnly_grants (n : Nat) (s : State) : EngineOnly s (State.grants n s) := by
  induction n generalizing s with
  | zero => exact EngineOnly.refl s
  | succ n ih =>
    cases hg : s.grant? with
    | none =>
      rw [State.grants_of_none hg]
      exact EngineOnly.refl s
    | some t =>
      rw [State.grants_succ hg]
      obtain ⟨-, -, k, v, -, -, -, ⟨-, rfl⟩ | ⟨-, rfl⟩⟩ := State.grant?_cases hg
      · exact (engineOnly_openingTurn s k v).trans (ih _)
      · exact (engineOnly_grantUnit s k v).trans (ih _)

theorem engineLook_engineOnly (s : State) : EngineOnly s s.engineLook := engineOnly_grants 8 s

theorem searchOrder_rotate (p : SlotNo) : (searchOrder p).map (·.val) = [1, 2, 3, 4, 5, 6, 7].rotate p.val := by
  revert p
  decide

/-- Settles O38. -/
theorem engineGrantsInTurn : Obligations.EngineGrantsInTurn := by
  refine ⟨fun s k v hrun hidle hfind hv => ⟨fun hphase => ?_, fun u c hphase hu hc => ?_⟩,
    fun s h => State.grants_of_none (State.grant?_none h) 8,
    fun s hknown => State.grants_end 8 s hknown s.card_workers_lt, searchOrder_rotate, State.hasWork_iff, fun s => ?_⟩
  · have hgrant := State.grant?_of_find hrun hidle hfind hv
    rw [hphase] at hgrant
    exact hgrant
  · have hgrant := State.grant?_of_find hrun hidle hfind hv
    rw [hphase] at hgrant
    exact hgrant.trans (congrArg some (State.grantUnit_eq hu hc))
  · obtain ⟨⟨h1, h2, h3, h4, h5, h6, h7, h8, h9, h10⟩, hqueue, hslots⟩ := engineLook_engineOnly s
    exact ⟨h1, h2, h3, h4, h5, h6, h7, h8, h9, h10, hqueue, hslots⟩

/-! ### The plain token record -/

/-- The sum of one more group of 4 bits. -/
theorem nibbleSum_succ (n body c : Nat) (hc : c < 16) : nibbleSum (n + 1) (body * 16 + c) = c + nibbleSum n body := by
  have hlast : (body * 16 + c) % 16 = c := by omega
  have hrest : (body * 16 + c) / 16 = body := by omega
  rw [nibbleSum, hlast, hrest]

theorem UnitKind.code_lt (kind : UnitKind) : kind.code < 4 := by cases kind <;> decide

theorem tokenCheck_lt (body : Nat) : tokenCheck body < 16 := Nat.mod_lt _ (by decide)

/-- The bits of a plain record before its check. -/
def recordBody (kind : UnitKind) (seq payload day rev : Nat) : Nat :=
  (((kind.code * 2 ^ 16 + seq) * 2 ^ 32 + payload) * 2 ^ 12 + day) * 2 ^ 4 + rev

theorem plainRecord_toNat {kind : UnitKind} {seq payload day rev : Nat} (hseq : seq < 2 ^ 16) (hpay : payload < 2 ^ 32)
    (hday : day < 2 ^ 12) (hrev : rev < 2 ^ 4) : (plainRecord kind seq payload day rev).toNat =
      recordBody kind seq payload day rev * 16 + tokenCheck (recordBody kind seq payload day rev) := by
  have hcheck := tokenCheck_lt (recordBody kind seq payload day rev)
  have hkind := kind.code_lt
  have hbody : recordBody kind seq payload day rev < 2 ^ 68 := by
    unfold recordBody
    omega
  change (BitVec.ofNat 72 (recordBody kind seq payload day rev * 16 +
    tokenCheck (recordBody kind seq payload day rev))).toNat = _
  rw [BitVec.toNat_ofNat]
  exact Nat.mod_eq_of_lt (by omega)

/-- Settles O39. -/
theorem tokenRecordAndItsCheck : Obligations.TokenRecordAndItsCheck := by
  intro kind seq payload day rev hseq hpay hday hrev
  have hcheck := tokenCheck_lt (recordBody kind seq payload day rev)
  have hsum := nibbleSum_succ 17 (recordBody kind seq payload day rev) _ hcheck
  have hval : tokenCheck (recordBody kind seq payload day rev) =
    (16 - nibbleSum 17 (recordBody kind seq payload day rev) % 16) % 16 := rfl
  have hbody : recordBody kind seq payload day rev =
    (((kind.code * 2 ^ 16 + seq) * 2 ^ 32 + payload) * 2 ^ 12 + day) * 2 ^ 4 + rev := rfl
  have hkind := kind.code_lt
  rw [plainRecord_toNat hseq hpay hday hrev]
  generalize recordBody kind seq payload day rev = body at *
  have hdiv : (body * 16 + tokenCheck body) / 16 = body := by omega
  rw [hdiv, hsum, ← hval]
  refine ⟨?_, ?_, ?_, ?_, ?_, ?_, ?_⟩ <;> omega

/-! ### The transform of a unit -/

theorem Config.meterKey_injective {material : BitVec 128} {m m' : Nat} (hm : m ≤ 99999999999) (hm' : m' ≤ 99999999999)
    (h : Config.meterKey material m = Config.meterKey material m') : m = m' := by
  have hnum := congrArg BitVec.toNat ((Config.keyDerivation material).injective h)
  simp only [BitVec.toNat_ofNat] at hnum
  omega

/-- A group's entry holds the material of its current revision, and of its previous one. -/
theorem KeyEntry.material_current {e : KeyEntry} {c : KeyGen} (hc : e.current = some c) :
    e.material c.revision = c.material := by
  unfold KeyEntry.material
  rw [hc]
  cases e.previous <;> simp

theorem KeyEntry.material_previous {e : KeyEntry} {c p : KeyGen} (hc : e.current = some c) (hp : e.previous = some p)
    (hne : p.revision ≠ c.revision) : e.material p.revision = p.material := by
  unfold KeyEntry.material
  rw [hc, hp]
  simp [hne.symm]

/-- Settles O40. -/
theorem transformOfAUnit : Obligations.TransformOfAUnit := by
  refine ⟨?_, fun key r r' h => (Config.transform key).injective h,
    fun key key' r hne => Config.keyedTransform.dependent key key' r hne,
    fun material m m' hm hm' hne h => hne (Config.meterKey_injective hm hm' h)⟩
  rintro s r u cur _ _ hcur rfl rfl
  have hmat := KeyEntry.material_current hcur
  refine ⟨rfl, fun hrev => ?_, fun p hp hne hrev => ?_, ?_⟩
  · simp only [State.transformFor, hrev, hmat]
  · simp only [State.transformFor, hrev, KeyEntry.material_previous hcur hp (hrev ▸ hne)]
  · cases hkind : u.kind <;>
      simp only [State.transformFor, hkind, unitPayload, unitRevision, hcur, Option.map_some, Option.getD_some, hmat,
        Clock.day]

/-! ### The completion of a transform -/

theorem execTransformCompletion_of {s : State} {t : Transform} {u : UnitInProgress} (ht : s.former.transform = some t)
    (hu : s.engine.unit = some u) : execTransformCompletion s = .next (s.endTransform.finishUnit t u).proceed := by
  unfold execTransformCompletion
  rw [ht, hu]

theorem State.finishUnit_token {s : State} {t : Transform} {u : UnitInProgress} {v : Vend} {p : PlanUnit}
    (hlive : u.discarded = false) (hv : (s.slot u.slot).vend = some v) (hp : v.plan.units[u.index]? = some p) :
    s.finishUnit t u = State.enqueue { s with engine := { s.engine with unit := some { u with stage := .committing } } }
      { place := .engine, slot := u.slot, reserved := true
        body := .token (v.tokenEntry u p t.revision (Config.transform t.key t.plain)) } := by
  unfold State.finishUnit
  rw [hlive, hv]
  dsimp only
  rw [hp]

theorem State.finishUnit_discarded {s : State} {t : Transform} {u : UnitInProgress} (h : u.discarded = true) :
    s.finishUnit t u = s.dropUnit := by
  unfold State.finishUnit
  rw [h]

/-- Settles O41. -/
theorem transformQueuesTheToken : Obligations.TransformQueuesTheToken := by
  intro s t u ht hu
  refine ⟨fun v p hlive hv hp => (execTransformCompletion_of ht hu).trans ?_,
    fun hgone => (execTransformCompletion_of ht hu).trans ?_⟩
  · rw [State.finishUnit_token (s := s.endTransform) hlive hv hp]
    rfl
  · rw [State.finishUnit_discarded hgone]
    rfl

end Sys2Proof.Machine
end

section
/-! PROOFS. What a commit hands to the owners of each kind of entry (R114, R118), and the clock's events (R156, R159). -/

namespace Sys2Proof.Machine

/-! ### Entries that owe a record write -/

section
variable {s : State} {k : SlotNo} {v : Vend} {n : Nat}

theorem State.commitOpen_of (hv : (s.slot k).vend = some v) : s.commitOpen k n =
    (s.modSlot k (fun sl => { sl with vend := some { v with number := some n, share := v.share - 1 } })).oweMeterWrite
      ⟨.opening k, v.meter, .opening v.plan.rolled v.plan.month v.plan.fixed v.plan.arrears, n⟩ := by
  unfold State.commitOpen
  rw [hv]

theorem State.commitToken_of {u : UnitInProgress} (t : TokenEntry) (hv : (s.slot k).vend = some v)
    (hu : s.engine.unit = some u) : s.commitToken k t n = { s with
      engine := { s.engine with unit := some { u with stage := .applying } }
      slots := s.slots.set k { s.slot k with vend := some { v with share := v.share - 1 } }
      meters := { s.meters with writes := s.meters.writes ++ [⟨.unit ⟨t.code, t.kind, t.seq, n⟩, t.meter,
        .token t.kind t.seq t.tenths ((s.currentRevision v.group).getD 0), n⟩] } } := by
  have happlying : s.engine.toApplying = { s.engine with unit := some { u with stage := .applying } } := by
    unfold Engine.toApplying
    rw [hu]
  unfold State.commitToken
  rw [hv, happlying]
  rfl

end

/-- Settles O42. -/
theorem recordWritingEntriesCommit : Obligations.RecordWritingEntriesCommit := by
  refine ⟨fun s e n v hv => ⟨fun o hbody => ?_, fun t u hbody hu => ?_⟩, fun s e n => ⟨fun m c h => ?_, fun g r hbody => ?_,
    fun b hbody => ?_⟩⟩
  · rw [State.commitBody, hbody]
    exact State.commitOpen_of hv
  · rw [State.commitBody, hbody]
    exact State.commitToken_of t hv hu
  · rw [State.commitBody]
    obtain ⟨r, hbody, rfl, rfl⟩ | ⟨hbody, rfl⟩ | ⟨v, hbody, rfl⟩ | ⟨st, hbody, rfl⟩ := h <;> rw [hbody] <;> rfl
  · rw [State.commitBody, hbody]
    rfl
  · rw [State.commitBody, hbody]
    rfl

/-! ### VEND_END -/

/-- The response of a vend whose VEND_END commits: DONE of a complete one, ENDED with its reason of any other. -/
theorem State.respondEnd_eq {s : State} {k : SlotNo} {c q : Byte} (hhand : (s.slot k).inHand = some (c, q)) (v : Vend)
    (d : EndEntry) : s.respondEnd k v d = s.modSlot k (fun sl => { sl with
      held := some (if d.ending = .complete then responseFrame c q .done none v.bodyBytes
        else responseFrame c q .ended d.reason v.endedBytes) }) := by
  unfold State.respondEnd
  cases d.ending <;> exact State.respond_eq hhand _ _ _

theorem State.commitEnd_eq {s : State} {k : SlotNo} {v : Vend} {c q : Byte} (d : EndEntry) (n : Nat)
    (hv : (s.slot k).vend = some v) (hhand : (s.slot k).inHand = some (c, q)) (hpending : (s.slot k).pendingChange = none) :
    s.commitEnd k d n = { s with
      journal := { s.journal with reserved := s.journal.reserved - (v.share - 1) }
      float := { s.float with
        reservations := s.float.reservations.filter (fun r => r.slot != k)
        work := s.float.work.draw (v.plan.value - d.undelivered) n
        writes := s.float.writes ++ [⟨s.float.work.draw (v.plan.value - d.undelivered) n, .nothing⟩] }
      meters := s.meters.setLock v.meter none
      slots := s.slots.set k { s.slot k with
        state := .idle, inHand := none, vend := none
        till := (s.slot k).till.add v.plan.tender v.plan.change d.undelivered
        lastEnding := some ⟨some d.vend, d.ending, d.reason, d.issued, d.undelivered⟩
        held := some (if d.ending = .complete then responseFrame c q .done none v.bodyBytes
          else responseFrame c q .ended d.reason v.endedBytes) } } := by
  unfold State.commitEnd State.removeVend
  rw [hv]
  dsimp only
  rw [State.respondEnd_eq (by rw [State.modSlot_slot_same]; exact hhand), State.modSlot_modSlot, State.modSlot_modSlot,
    State.endWork_of_none (by rw [State.modSlot_slot_same]; exact hpending), State.modSlot_modSlot]
  rfl

/-- Settles O43. -/
theorem vendEndCommits : Obligations.VendEndCommits := by
  intro s e n d v c q hbody hpart hv hhand hpending
  rw [State.commitBody, hbody]
  dsimp only
  rw [if_neg hpart]
  exact State.commitEnd_eq d n hv hhand hpending

/-! ### The float -/

/-- The float judgement, given as whether the clock runs before the expiry. -/
theorem State.floatLive_iff (s : State) :
    s.floatLive = true ↔ s.clock.state = .running ∧ s.clock.seconds < s.float.work.expiry := by
  unfold State.floatLive
  rw [Bool.and_eq_true, beq_iff_eq, decide_eq_true_iff]

theorem State.judge_of {s : State} {live : Bool}
    (h : live = true ↔ s.clock.state = .running ∧ s.clock.seconds < s.float.work.expiry) : s.judge = { s with
      float := { s.float with state := if live then .live else .frozen }
      clock := s.clock.setChannel 0 (if live then some s.float.work.expiry else none) } := by
  have hlive : s.floatLive = live := Bool.eq_iff_iff.mpr (s.floatLive_iff.trans h.symm)
  unfold State.judge
  rw [hlive]

/-- Settles O44. -/
theorem floatEntriesCommit : Obligations.FloatEntriesCommit := by
  refine fun s e n => ⟨fun number amount ceiling expiry r live hbody hr hlive => ?_, fun amount r hbody hr => ?_⟩
  · subst hr
    rw [State.commitBody, hbody]
    dsimp only [State.commitGrant]
    rw [State.judge_of (s := { s with
      float := { s.float with work := s.float.work.grant number amount ceiling expiry n } }) hlive]
    rfl
  · subst hr
    rw [State.commitBody, hbody]
    rfl

/-! ### The entries about slots -/

/-- The work of a slot with an unbind pending ends in NORMAL mode: the UNBIND's entry joins the queue (R147). -/
theorem State.endWork_unbind {s : State} {k j : SlotNo} (h : (s.slot k).pendingChange = some (.unbindBy j))
    (hmode : s.journal.mode = .normal) : s.endWork k =
      ((s.modSlot k (fun sl => { sl with state := .working, inHand := some unbindInHand })).modSlot j
        (fun sl => { sl with admin := some ⟨some (.unbind k), .queued⟩ })).enqueue (adminEntry j (.unbind k)) := by
  unfold State.endWork State.finishWork
  rw [h]
  dsimp only
  rw [hmode]

theorem State.commitUnbind_self (s : State) (k : SlotNo) (n : Nat) : s.commitUnbind k k n =
    (s.respond k .done none (beBytes 1 k.val ++ beBytes 4 n ++ (s.slot k).till.bytes)).modSlot k
      (fun sl => { sl.unbind with admin := none }) := by
  unfold State.commitUnbind
  rw [if_pos rfl]

theorem State.commitUnbind_other (s : State) {k t : SlotNo} (n : Nat) (h : t ≠ k) : s.commitUnbind k t n =
    (s.modSlot t Slot.unbind).adminDone k (beBytes 1 t.val ++ beBytes 4 n ++ (s.slot t).till.bytes) := by
  unfold State.commitUnbind
  rw [if_neg h]

theorem State.modSlot_modSlot_other (s : State) {j k : SlotNo} (h : j ≠ k) (f g : Slot → Slot) :
    (s.modSlot k f).modSlot j g = { s with slots := (s.slots.set k (f (s.slot k))).set j (g (s.slot j)) } := by
  rw [State.modSlot, State.modSlot_slot_other s f h]
  rfl

/-- A DONE of slot k after a change of another slot's record. -/
theorem State.modSlot_adminDone {s : State} {k t : SlotNo} {c q : Byte} (h : t ≠ k) (f : Slot → Slot) (body : List Byte)
    (hhand : (s.slot k).inHand = some (c, q)) (hpending : (s.slot k).pendingChange = none) :
    (s.modSlot t f).adminDone k body =
      { s with slots := (s.slots.set t (f (s.slot t))).set k ((s.slot k).done c q body) } := by
  have hslot := s.modSlot_slot_other f h.symm
  rw [State.adminDone_eq (by rw [hslot]; exact hhand) (by rw [hslot]; exact hpending),
    State.modSlot_modSlot_other s h.symm]

/-- Settles O45. -/
theorem slotEntriesCommit : Obligations.SlotEntriesCommit := by
  refine ⟨fun s e n c q hhand => ⟨fun b hbody ht hpending => ?_, fun t hbody ht hpending => ?_, fun hbody => ?_,
    fun t hbody hpending => ?_⟩, fun s k j hj h hmode => ?_⟩
  · rw [State.commitBody, hbody]
    exact State.modSlot_adminDone ht _ _ hhand hpending
  · rw [State.commitBody, hbody]
    exact (State.commitUnbind_other s n ht).trans (State.modSlot_adminDone ht _ _ hhand hpending)
  · rw [State.commitBody, hbody]
    refine (State.commitUnbind_self s e.slot n).trans ?_
    rw [State.respond_eq hhand, State.modSlot_modSlot]
    rfl
  · rw [State.commitBody, hbody]
    dsimp only [State.commitShiftClose]
    rw [State.adminDone_eq (by rw [State.modSlot_slot_same]; exact hhand) (by rw [State.modSlot_slot_same]; exact hpending),
      State.modSlot_modSlot]
    rfl
  · rw [State.endWork_unbind h hmode, State.modSlot_modSlot_other s hj]
    rfl

/-! ### The clock -/

theorem Clock.step_eq (c : Clock) (new : Nat) :
    c.step new = if c.state = .running then some ((new : Int) - c.seconds) else none := by
  unfold Clock.step
  cases c.state <;> rfl

theorem Clock.moveChannels_other (c : Clock) (step : Int) {k : SlotNo} (h : k ≠ 0) :
    (c.moveChannels step)[k] = c.channels[k].map (fun d => moveDeadline d step) := by
  simp [Clock.moveChannels, h]

theorem moveDeadline_eq (d new old : Nat) : moveDeadline d ((new : Int) - old) = min 4294967295 (d + new - old) := by
  have h : ((d : Int) + ((new : Int) - old)).toNat = d + new - old := by omega
  rw [moveDeadline, h]

theorem Clock.set_channel (c : Clock) (new month n : Nat) {k : SlotNo} (h : k ≠ 0) : (c.set new month n).channels[k] =
    if c.state = .running then c.channels[k].map (fun d => min 4294967295 (d + new - c.seconds))
    else c.channels[k].map (fun d => min 4294967295 d) := by
  refine (c.moveChannels_other _ h).trans ?_
  rw [Clock.step_eq]
  split
  · exact congrArg (fun f => Option.map f c.channels[k]) (funext fun d => moveDeadline_eq d new c.seconds)
  · refine congrArg (fun f => Option.map f c.channels[k]) (funext fun d => ?_)
    rw [Option.getD_none, moveDeadline, Int.add_zero, Int.toNat_natCast]

@[simp] theorem Clock.setChannel_same (c : Clock) (k : SlotNo) (d : Option Nat) : (c.setChannel k d).channels[k] = d := by
  simp [Clock.setChannel]

theorem Clock.setChannel_other (c : Clock) {j k : SlotNo} (d : Option Nat) (h : j ≠ k) :
    (c.setChannel k d).channels[j] = c.channels[j] := by
  simpa [Clock.setChannel] using Vector.getElem_set_ne _ _ (fun e => h (Fin.ext e.symm))

/-- The state in which a CLOCK_SET's commit judges the float. -/
def State.clockSet (s : State) (new month n : Nat) : State := { s with clock := s.clock.set new month n }

theorem State.floatLive_clockSet (s : State) (new month n : Nat) :
    (s.clockSet new month n).floatLive = decide (new < s.float.work.expiry) := rfl

/-- The settings write a CLOCK_SET's commit begins, with the float state just judged. -/
def Clock.setWrite (c : Clock) (new month n : Nat) (judged : FloatState) : SettingsWrite :=
  ⟨month, n, if c.state = .running then some ((new : Int) - c.seconds) else none, judged, true⟩

theorem State.commitClock_eq (s : State) (new month n : Nat) : s.commitClock new month n = { s with
    clock := { (s.clockSet new month n).judge.clock with
      settingsWrite := some (s.clock.setWrite new month n (s.clockSet new month n).judge.float.state) }
    float := { s.float with state := (s.clockSet new month n).judge.float.state }
    slots := s.slots.set 0 (s.slot 0).writes } := by
  rw [Clock.setWrite, ← Clock.step_eq]
  rfl

theorem State.clockSet_judged (s : State) (new month n : Nat) : (s.clockSet new month n).judge.float.state =
    if new < s.float.work.expiry then .live else .frozen := by
  change (if (s.clockSet new month n).floatLive then FloatState.live else .frozen) = _
  rw [State.floatLive_clockSet]
  simp only [decide_eq_true_eq]

/-- The judgement leaves channel 8 in step with the float state (R96, R97). -/
theorem State.judge_channelEight (s : State) : s.judge.ChannelEight := by
  unfold State.ChannelEight State.judge
  rw [Clock.setChannel_same]
  dsimp only
  cases s.floatLive <;> rfl

theorem Clock.tick_of_running {c : Clock} (h : c.state = .running) :
    c.tick = { c with seconds := min 4294967295 (c.seconds + 1) } := by
  unfold Clock.tick
  rw [h]

theorem Clock.tick_of_unset {c : Clock} (h : c.state = .unset) : c.tick = c := by
  unfold Clock.tick
  rw [h]

theorem Clock.due_eq_false {c : Clock} {k : SlotNo} (h : ∀ d, c.channels[k] = some d → c.seconds < d) :
    c.due k = false := by
  unfold Clock.due
  cases hd : c.channels[k] with
  | none => rfl
  | some d => simpa using h d hd

/-- Settles O46. -/
theorem clockCommitAndEvents : Obligations.ClockCommitAndEvents := by
  refine ⟨fun s e n old new month hbody => ⟨_, rfl, ?_⟩, fun s h => ?_, fun s h => ?_, fun s d hd hle => ?_,
    fun s => ⟨fun h => ?_, fun k h => ?_⟩⟩
  · have hcommit : s.commitBody e n = s.commitClock new month n := by rw [State.commitBody, hbody]
    rw [hcommit, State.commitClock_eq]
    refine ⟨rfl, rfl, rfl, rfl, rfl, rfl, rfl, s.clockSet_judged new month n, (s.clockSet new month n).judge_channelEight,
      fun k hk => ?_, rfl⟩
    exact (Clock.setChannel_other _ _ hk).trans (s.clock.set_channel new month n hk)
  · exact congrArg (fun c => Host.Outcome.next { s with clock := c }) (Clock.tick_of_running h)
  · exact congrArg (fun c => Host.Outcome.next { s with clock := c }) (Clock.tick_of_unset h)
  · exact congrArg Host.Outcome.next (if_pos (Clock.due_of_reached hd hle))
  · exact congrArg Host.Outcome.next (if_neg (by rw [Clock.due_eq_false h]; exact Bool.false_ne_true))
  · refine congrArg Host.Outcome.next (if_neg ?_)
    rintro ⟨hk, hdue⟩
    rw [Clock.due_eq_false (h.resolve_left hk)] at hdue
    cases hdue

end Sys2Proof.Machine
end

section
/-! PROOFS. The completions of the record writes: what each hands to its owner (R13, R17, R39, R63, R83 to R86, R92, R163),
and what a write leaves of the meter table (R61). -/

namespace Sys2Proof.Machine

/-! ### Vends -/

section
variable {s : State} {k : SlotNo} {v : Vend} {w : MeterWrite} {rest : List MeterWrite}

theorem State.endMeterWrite_eq (hw : s.meters.writes = w :: rest) :
    s.endMeterWrite w = { s with meters := ⟨writeCells s.meters.cells w, rest⟩ } := by
  unfold State.endMeterWrite
  rw [hw]
  rfl

theorem State.openApplied_pending {r : Reason} (h : v.pendingEnding = some r) :
    s.openApplied k v = s.closeVend k { v with phase := .issuing } .partly (some r) := by
  unfold State.openApplied
  rw [h]

theorem State.openApplied_empty (h : v.pendingEnding = none) (hunits : v.plan.units = []) :
    s.openApplied k v = s.closeVend k { v with phase := .issuing } .complete none := by
  unfold State.openApplied
  rw [h]
  exact if_pos hunits

theorem State.openApplied_units (h : v.pendingEnding = none) (hunits : v.plan.units ≠ []) :
    s.openApplied k v = s.modSlot k (fun sl => { sl with vend := some { v with phase := .issuing } }) := by
  unfold State.openApplied
  rw [h]
  exact if_neg hunits

theorem execOpenRecordWriteCompletion_of (hw : s.meters.writes = w :: rest) (howner : w.owner = .opening k)
    (hv : (s.slot k).vend = some v) (hnum : v.number = some w.number) : execOpenRecordWriteCompletion s =
      .next (State.openApplied { s with meters := ⟨writeCells s.meters.cells w, rest⟩ } k v).proceed := by
  rw [← State.endMeterWrite_eq hw]
  unfold execOpenRecordWriteCompletion
  rw [hw]
  dsimp only
  rw [howner]
  dsimp only
  rw [State.endMeterWrite_slot, hv]
  exact congrArg Host.Outcome.next (if_pos hnum)

/-- The state in which a unit's record write hands its token to the vend: the write done, the engine idle (R17). -/
def State.unitWritten (s : State) (w : MeterWrite) (rest : List MeterWrite) : State :=
  { s with meters := ⟨writeCells s.meters.cells w, rest⟩, engine := { s.engine with unit := none } }

theorem State.dropUnit_endMeterWrite (hw : s.meters.writes = w :: rest) :
    (s.endMeterWrite w).dropUnit = s.unitWritten w rest := by
  rw [State.endMeterWrite_eq hw]
  rfl

theorem execUnitRecordWriteCompletion_of {tok : Token} {u : UnitInProgress} (hw : s.meters.writes = w :: rest)
    (howner : w.owner = .unit tok) (hu : s.engine.unit = some u) (hv : (s.slot u.slot).vend = some v) :
    execUnitRecordWriteCompletion s = .next ((s.unitWritten w rest).unitApplied u.slot v tok).proceed := by
  have hslot : ((s.endMeterWrite w).dropUnit.slot u.slot).vend = some v := hv
  unfold execUnitRecordWriteCompletion
  rw [hw, hu]
  dsimp only
  rw [howner]
  dsimp only
  rw [hslot, State.dropUnit_endMeterWrite hw]

/-- A vend with one more token in its batch (R17). -/
def Vend.issueToken (v : Vend) (tok : Token) : Vend := { v with batch := v.batch ++ [tok], issued := v.issued + 1 }

/-- The state in which a unit's record write lets its vend go on (R17). -/
def State.unitIssued (s : State) (k : SlotNo) (v : Vend) (tok : Token) : State :=
  s.modSlot k (fun sl => { sl with vend := some (v.issueToken tok) })

variable {tok : Token}

theorem State.unitApplied_failed (hmode : s.journal.mode = .failed) :
    s.unitApplied k v tok = (s.unitIssued k v tok).endStoreFault k (v.issueToken tok) := by
  unfold State.unitApplied
  dsimp only
  rw [State.modSlot_journal, hmode]
  rfl

theorem State.unitApplied_normal (hmode : s.journal.mode = .normal) : s.unitApplied k v tok =
    if v.issued + 1 = v.plan.units.length then (s.unitIssued k v tok).closeVend k (v.issueToken tok) .complete none
    else match v.pendingEnding with
      | some r => (s.unitIssued k v tok).closeVend k (v.issueToken tok) .partly (some r)
      | none => if (v.issueToken tok).batch.length = 4 then (s.unitIssued k v tok).enterHeld k (v.issueToken tok)
          else s.unitIssued k v tok := by
  unfold State.unitApplied
  dsimp only
  rw [State.modSlot_journal, hmode] <;> rfl

theorem State.unitIssued_closeVend (s : State) (k : SlotNo) (v v' : Vend) (tok : Token) (e : Ending) (r : Option Reason) :
    (s.unitIssued k v tok).closeVend k v' e r = s.closeVend k v' e r := by
  unfold State.unitIssued State.closeVend
  dsimp only
  rw [State.modSlot_modSlot]

theorem State.modSlot_setChannel (s : State) (k j : SlotNo) (f : Slot → Slot) (d : Option Nat) :
    (s.modSlot k f).setChannel j d = (s.setChannel j d).modSlot k f := rfl

/-- The claims of a vend that ends by R31 are returned with no draw, and its channel is clear. -/
def State.storeFaulted (s : State) (k : SlotNo) (v : Vend) : State := { s with
  journal := { s.journal with reserved := s.journal.reserved - v.share }
  float := { s.float with reservations := s.float.reservations.filter (fun r => r.slot != k) }
  meters := s.meters.setLock v.meter none
  clock := s.clock.setChannel k none }

/-- The record of a slot, its request in hand as code and sequence, whose vend has ended PARTIAL STORE_FAULT (R31). -/
def Slot.storeFaulted (sl : Slot) (c q : Byte) (v : Vend) : Slot := { sl with
  state := .idle, inHand := none, vend := none
  till := sl.till.add v.plan.tender v.plan.change v.undelivered
  lastEnding := some ⟨v.number, .partly, some .storeFault, v.issued, v.undelivered⟩
  held := some (responseFrame c q .ended (some .storeFault) v.endedBytes) }

theorem State.endStoreFault_eq {c q : Byte} (v : Vend) (hhand : (s.slot k).inHand = some (c, q))
    (hpending : (s.slot k).pendingChange = none) :
    s.endStoreFault k v = (s.storeFaulted k v).modSlot k (fun sl => sl.storeFaulted c q v) := by
  unfold State.endStoreFault State.removeVend
  dsimp only
  rw [State.respond_eq (s := ((s.returnShare v.share).releaseReservation k).setLock v.meter none) hhand]
  rw [State.modSlot_setChannel, State.modSlot_modSlot, State.modSlot_modSlot,
    State.endWork_of_none (by rw [State.modSlot_slot_same]; exact hpending), State.modSlot_modSlot]
  rfl

theorem State.unitIssued_endStoreFault {c q : Byte} (v' : Vend) (hhand : (s.slot k).inHand = some (c, q))
    (hpending : (s.slot k).pendingChange = none) :
    (s.unitIssued k v tok).endStoreFault k v' = (s.storeFaulted k v').modSlot k (fun sl => sl.storeFaulted c q v') := by
  rw [State.endStoreFault_eq (c := c) (q := q) _ (by rw [State.unitIssued, State.modSlot_slot_same]; exact hhand)
    (by rw [State.unitIssued, State.modSlot_slot_same]; exact hpending)]
  exact (s.storeFaulted k v').modSlot_modSlot k (fun sl => { sl with vend := some (v.issueToken tok) })
    (fun sl => sl.storeFaulted c q v')

theorem State.enterHeld_eq {c q : Byte} (v : Vend) (hhand : (s.slot k).inHand = some (c, q)) : s.enterHeld k v =
    (s.setChannel k (some (min 4294967295 (s.clock.seconds + (s.slot k).lease)))).modSlot k (fun sl =>
      { sl with state := .held, held := some (responseFrame c q .part none v.bodyBytes) }) := by
  unfold State.enterHeld State.leaseDeadline
  dsimp only
  rw [State.respond_eq hhand, State.modSlot_slot_same, State.modSlot_setChannel, State.modSlot_modSlot]
  rfl

theorem State.unitIssued_enterHeld {c q : Byte} (v' : Vend) (hhand : (s.slot k).inHand = some (c, q)) :
    (s.unitIssued k v tok).enterHeld k v' =
      (s.setChannel k (some (min 4294967295 (s.clock.seconds + (s.slot k).lease)))).modSlot k (fun sl => { sl with
        vend := some (v.issueToken tok), state := .held, held := some (responseFrame c q .part none v'.bodyBytes) }) := by
  unfold State.unitIssued
  rw [State.enterHeld_eq (c := c) (q := q) _ (by rw [State.modSlot_slot_same]; exact hhand), State.modSlot_setChannel,
    State.modSlot_modSlot, State.modSlot_slot_same]
  rfl

end

/-- Settles O47. -/
theorem vendRecordWritesComplete : Obligations.VendRecordWritesComplete := by
  refine ⟨?_, ?_, ?_⟩
  · rintro s w rest k v _ hw howner hv hnum rfl
    have hexec := execOpenRecordWriteCompletion_of hw howner hv hnum
    refine ⟨fun hp hunits => ?_, fun hp hunits => ?_, fun r hp => ?_⟩
    · rw [State.openApplied_units hp hunits] at hexec
      exact hexec
    · rw [State.openApplied_empty hp hunits] at hexec
      exact hexec
    · rw [State.openApplied_pending hp] at hexec
      exact hexec
  · rintro s w rest tok u v v' t hw howner hu hv hv' ht hmode
    have hexec := execUnitRecordWriteCompletion_of hw howner hu hv
    rw [State.unitApplied_normal (s := s.unitWritten w rest) hmode] at hexec
    obtain rfl : v' = v.issueToken tok := hv'
    refine ⟨fun hlast => ?_, fun r hlast hp => ?_, fun c q hlast hp hfour hhand => ?_, fun hlast hp hfour => ?_⟩
    · rw [if_pos (by exact hlast), State.unitIssued_closeVend] at hexec
      rw [ht]
      exact hexec
    · rw [if_neg (by exact hlast), hp] at hexec
      dsimp only at hexec
      rw [State.unitIssued_closeVend] at hexec
      rw [ht]
      exact hexec
    · rw [if_neg (by exact hlast), hp] at hexec
      dsimp only at hexec
      rw [if_pos hfour, State.unitIssued_enterHeld (s := s.unitWritten w rest) _ hhand] at hexec
      rw [ht]
      exact hexec
    · rw [if_neg (by exact hlast), hp] at hexec
      dsimp only at hexec
      rw [if_neg hfour] at hexec
      rw [ht]
      exact hexec
  · rintro s w rest tok u v v' c q hw howner hu hv hv' hmode hhand hpending
    have hexec := execUnitRecordWriteCompletion_of hw howner hu hv
    obtain rfl : v' = v.issueToken tok := hv'
    rw [State.unitApplied_failed (s := s.unitWritten w rest) hmode,
      State.unitIssued_endStoreFault (s := s.unitWritten w rest) _ hhand hpending] at hexec
    exact hexec

end Sys2Proof.Machine
end

section
/-! PROOFS. The completions of the meter, float, settings, schedule and key table writes (R39, R63, R83 to R86, R92, R163). -/

namespace Sys2Proof.Machine

/-! ### Meter, float and settings writes -/

section
variable {s : State}

theorem execMeterWriteCompletion_admin {w : MeterWrite} {rest : List MeterWrite} {k : SlotNo}
    (hw : s.meters.writes = w :: rest) (howner : w.owner = .admin k) : execMeterWriteCompletion s =
      .next (State.adminDone { s with meters := Meters.setLock ⟨writeCells s.meters.cells w, rest⟩ w.meter none } k
        (meterDoneBody w)).proceed := by
  unfold execMeterWriteCompletion
  rw [hw]
  dsimp only
  rw [howner]
  dsimp only
  rw [State.endMeterWrite_eq hw]
  rfl

theorem execMeterWriteCompletion_replay {w : MeterWrite} {rest : List MeterWrite} (hw : s.meters.writes = w :: rest)
    (howner : w.owner = .replay) : execMeterWriteCompletion s =
      .next (State.proceed { s with meters := ⟨writeCells s.meters.cells w, rest⟩ }) := by
  unfold execMeterWriteCompletion
  rw [hw]
  dsimp only
  rw [howner]
  dsimp only
  rw [State.endMeterWrite_eq hw]

theorem execFloatWriteCompletion_of {w : FloatWrite} {rest : List FloatWrite} (hw : s.float.writes = w :: rest) :
    execFloatWriteCompletion s =
      .next (State.floatResponse { s with float := { s.float with nv := w.record, writes := rest } } w).proceed := by
  have hend : s.endFloatWrite w = { s with float := { s.float with nv := w.record, writes := rest } } := by
    unfold State.endFloatWrite
    rw [hw]
    rfl
  unfold execFloatWriteCompletion
  rw [hw]
  dsimp only
  rw [hend]

theorem State.floatResponse_nothing {w : FloatWrite} (h : w.done = .nothing) : s.floatResponse w = s := by
  unfold State.floatResponse
  rw [h]

theorem State.floatResponse_grant {w : FloatWrite} {number n : Nat} {st : FloatState} (h : w.done = .grant number n st) :
    s.floatResponse w = s.adminDone 0 (beBytes 4 number ++ beBytes 4 n ++ beBytes 5 w.record.balance ++
      beBytes 5 w.record.ceiling ++ beBytes 4 w.record.expiry ++ beBytes 1 st.code) := by
  unfold State.floatResponse
  rw [h]

theorem State.floatResponse_recall {w : FloatWrite} {amount n available : Nat} (h : w.done = .recall amount n available) :
    s.floatResponse w = s.adminDone 0 (beBytes 5 amount ++ beBytes 4 n ++ beBytes 5 w.record.balance ++
      beBytes 5 available) := by
  unfold State.floatResponse
  rw [h]

/-- The state in which a settings write has been made (R161). -/
def State.settingsWritten (s : State) (w : SettingsWrite) : State :=
  { s with clock := { s.clock with settingsMonth := w.month, settingsApplied := w.number, settingsWrite := none } }

theorem execSettingsWriteCompletion_of {w : SettingsWrite} (hw : s.clock.settingsWrite = some w) :
    execSettingsWriteCompletion s = .next (if w.live then
      (s.settingsWritten w).adminDone 0 ((s.settingsWritten w).clockDoneBody w) else s.settingsWritten w).proceed := by
  unfold execSettingsWriteCompletion
  rw [hw]
  rfl

end

/-- Settles O48. -/
theorem meterFloatAndSettingsWritesComplete : Obligations.MeterFloatAndSettingsWritesComplete := by
  refine ⟨fun s w rest k c q hw howner hhand hpending => ?_, fun s w rest hw => ⟨fun hdone => ?_,
    fun c q hhand hpending => ⟨fun number n st hdone => ?_, fun amount n available hdone => ?_⟩⟩,
    fun s w rest hw howner => execMeterWriteCompletion_replay hw howner, fun s w hw hlive => ?_,
    fun s w c q hw hlive hhand hpending => ?_⟩
  · have hexec := execMeterWriteCompletion_admin hw howner
    rw [State.adminDone_eq (s := { s with
      meters := Meters.setLock ⟨writeCells s.meters.cells w, rest⟩ w.meter none }) hhand hpending] at hexec
    exact hexec
  · have hexec := execFloatWriteCompletion_of hw
    rw [State.floatResponse_nothing hdone] at hexec
    exact hexec
  · have hexec := execFloatWriteCompletion_of hw
    rw [State.floatResponse_grant hdone,
      State.adminDone_eq (s := { s with float := { s.float with nv := w.record, writes := rest } }) hhand hpending] at hexec
    exact hexec
  · have hexec := execFloatWriteCompletion_of hw
    rw [State.floatResponse_recall hdone,
      State.adminDone_eq (s := { s with float := { s.float with nv := w.record, writes := rest } }) hhand hpending] at hexec
    exact hexec
  · have hexec := execSettingsWriteCompletion_of hw
    rw [hlive, if_neg Bool.false_ne_true] at hexec
    exact hexec
  · have hexec := execSettingsWriteCompletion_of hw
    rw [hlive, if_pos rfl, State.adminDone_eq (s := s.settingsWritten w) hhand hpending] at hexec
    exact hexec

/-! ### Schedule and key table writes -/

section
variable {s : State}

/-- The state in which a schedule write has been made (R39). -/
def State.scheduleWritten (s : State) (b : TariffBody) (n : Nat) : State :=
  { s with tariff := ⟨s.tariff.schedules.set (Fin.ofNat 8 b.schedule) (Schedule.ofBody b n false), none⟩ }

theorem execScheduleWriteCompletion_of {b : TariffBody} {n : Nat} (hw : s.tariff.write = some (b, n)) :
    execScheduleWriteCompletion s = .next (if (s.slot 0).writing then
      (s.scheduleWritten b n).adminDone 0 (beBytes 1 b.schedule ++ beBytes 4 n) else s.scheduleWritten b n).proceed := by
  unfold execScheduleWriteCompletion
  rw [hw]
  rfl

theorem Fin.ofNat_val_group (g : Fin 4) : Fin.ofNat 4 g.val = g := Fin.ext (Nat.mod_eq_of_lt g.isLt)

theorem Former.entry_val (f : Former) (g : Fin 4) : f.entry g.val = f.keys[g] := by
  simp only [Former.entry, Fin.ofNat_val_group]

theorem State.modKey_val (s : State) (g : Fin 4) (f : KeyEntry → KeyEntry) :
    s.modKey g.val f = { s with former := { s.former with keys := s.former.keys.set g (f s.former.keys[g]) } } := by
  simp only [State.modKey, Former.entry, Fin.ofNat_val_group]

/-- The state in which a write of the key table has left group g's entry as e (R83, R84, R86). -/
def State.keyWritten (s : State) (g : Fin 4) (e : KeyEntry) : State :=
  { s with former := { s.former with keys := s.former.keys.set g e, keyWrite := none } }

theorem State.endKeyWrite_modKey (s : State) (g : Fin 4) (f : KeyEntry → KeyEntry) :
    (s.modKey g.val f).endKeyWrite = s.keyWritten g (f s.former.keys[g]) := by
  rw [State.modKey_val]
  rfl

theorem State.entry_keyWritten (s : State) (g : Fin 4) (e : KeyEntry) : (s.keyWritten g e).former.entry g.val = e := by
  rw [Former.entry_val]
  exact Vector.getElem_set_self _

theorem State.modKey_keyWritten (s : State) (g : Fin 4) (e : KeyEntry) (f : KeyEntry → KeyEntry) :
    (s.keyWritten g e).modKey g.val f = s.keyWritten g (f e) := by
  have hkey : (s.keyWritten g e).former.keys[g] = e := Vector.getElem_set_self _
  rw [State.modKey_val, hkey]
  simp only [State.keyWritten, Vector.set_set]

theorem State.keyWritten_modSlot (s : State) (g : Fin 4) (e : KeyEntry) (k : SlotNo) (f : Slot → Slot) :
    (s.keyWritten g e).modSlot k f = (s.modSlot k f).keyWritten g e := rfl

theorem State.keyWritten_returnShare (s : State) (g : Fin 4) (e : KeyEntry) (n : Nat) :
    (s.keyWritten g e).returnShare n = (s.returnShare n).keyWritten g e := rfl

theorem State.returnShare_modSlot (s : State) (n : Nat) (k : SlotNo) (f : Slot → Slot) :
    (s.returnShare n).modSlot k f = (s.modSlot k f).returnShare n := rfl

theorem State.releaseClaims_keyLoad (s : State) (g rev : Nat) :
    s.releaseClaims (.keyLoad g rev) = s.modKey g (fun x => { x with loading := false }) := rfl

theorem State.revisionByteOf_keyWritten (s : State) (g : Fin 4) (e : KeyEntry) :
    (s.keyWritten g e).revisionByteOf g.val = revisionBytes e.current := by
  unfold State.revisionByteOf
  rw [if_pos (Nat.le_of_lt_succ g.isLt), State.entry_keyWritten]

theorem execStageWriteCompletion_stage {g : Fin 4} {gen : KeyGen} (hw : s.former.keyWrite = some (.stage g gen)) :
    execStageWriteCompletion s =
      .next (s.keyWritten g { s.former.keys[g] with stage := some gen }).stageWritten.journalLook := by
  unfold execStageWriteCompletion
  rw [hw]
  dsimp only
  rw [State.endKeyWrite_modKey]

theorem execStageWriteCompletion_clear {g : Fin 4} (hw : s.former.keyWrite = some (.clear g)) :
    execStageWriteCompletion s = .next (s.keyWritten g { s.former.keys[g] with stage := none }).proceed := by
  unfold execStageWriteCompletion
  rw [hw]
  dsimp only
  rw [State.endKeyWrite_modKey]

/-- The entry of a group whose stage an install write makes current (R84). -/
def KeyEntry.installed (e : KeyEntry) (gen : KeyGen) (n : Nat) : KeyEntry := ⟨some gen, e.current, none, n, false⟩

theorem execInstallWriteCompletion_of {g : Fin 4} {n : Nat} {gen : KeyGen} (hw : s.former.keyWrite = some (.install g n))
    (hstage : s.former.keys[g].stage = some gen) : execInstallWriteCompletion s =
      .next (if (s.slot 0).writing then (s.keyWritten g (s.former.keys[g].installed gen n)).adminDone 0
          (beBytes 1 g.val ++ beBytes 1 gen.revision ++ beBytes 4 n ++ beBytes 1 gen.revision)
        else s.keyWritten g (s.former.keys[g].installed gen n)).proceed := by
  have hinstall : { s.former.keys[g].install n with loading := false } = s.former.keys[g].installed gen n := by
    unfold KeyEntry.install
    rw [hstage]
    rfl
  unfold execInstallWriteCompletion State.keyDoneBody
  rw [hw]
  dsimp only
  rw [State.endKeyWrite_modKey, hinstall, State.revisionByteOf_keyWritten]
  rfl

theorem State.stageWritten_queued {b : EntryBody} (h : (s.slot 0).admin = some ⟨some b, .staging false⟩) :
    s.stageWritten = (s.modSlot 0 (fun sl => { sl with admin := some ⟨some b, .queued⟩ })).enqueue (adminEntry 0 b) := by
  unfold State.stageWritten
  rw [h]

theorem State.stageWritten_refused {b : EntryBody} (h : (s.slot 0).admin = some ⟨some b, .staging true⟩) :
    s.stageWritten = s.refuseAdmin 0 ⟨some b, .staging true⟩ .powerLow := by
  unfold State.stageWritten
  rw [h]

/-- A refusal of an admin request, up to the return of its claims. -/
theorem State.refuseAdmin_of {k : SlotNo} {c q : Byte} (hhand : (s.slot k).inHand = some (c, q)) (b : EntryBody)
    (ph : AdminPhase) (r : Reason) : s.refuseAdmin k ⟨some b, ph⟩ r =
      (((s.modSlot k (fun sl => { sl with
        admin := none, held := some (responseFrame c q .refused (some r) (s.lateBody ⟨some b, ph⟩)) })).returnShare
          1).releaseClaims b).endWork k := by
  unfold State.refuseAdmin
  dsimp only
  rw [State.respond_eq hhand, State.modSlot_modSlot]
  rfl

end

/-- A KEY_LOAD refused after its stage write gives back its entry slot and its group's LOADING flag (R85). -/
theorem State.refuseAdmin_keyLoad {s : State} {g : Fin 4} {e : KeyEntry} {rev : Nat} {c q : Byte} (ph : AdminPhase)
    (r : Reason) (hhand : (s.slot 0).inHand = some (c, q)) (hpending : (s.slot 0).pendingChange = none) :
    (s.keyWritten g e).refuseAdmin 0 ⟨some (.keyLoad g.val rev), ph⟩ r = { s with
      former := { s.former with keys := s.former.keys.set g { e with loading := false }, keyWrite := none }
      slots := s.slots.set 0 { s.slot 0 with
        state := .idle, inHand := none, admin := none
        held := some (responseFrame c q .refused (some r) (revisionBytes e.current)) }
      journal := { s.journal with reserved := s.journal.reserved - 1 } } := by
  have hlate : (s.keyWritten g e).lateBody ⟨some (.keyLoad g.val rev), ph⟩ = revisionBytes e.current :=
    s.revisionByteOf_keyWritten g e
  rw [State.refuseAdmin_of (s := s.keyWritten g e) hhand, hlate]
  rw [State.keyWritten_modSlot, State.keyWritten_returnShare, State.releaseClaims_keyLoad, State.modKey_keyWritten,
    ← State.returnShare_modSlot, ← State.keyWritten_modSlot,
    State.endWork_of_none (by rw [State.modSlot_slot_same]; exact hpending), State.modSlot_modSlot]
  rfl

/-- Settles O49. -/
theorem scheduleAndKeyWritesComplete : Obligations.ScheduleAndKeyWritesComplete := by
  refine ⟨fun s b n c q hw hwriting hhand hpending => ?_, fun s g gen b hw hadmin => ?_,
    fun s g gen c q hw hadmin hhand hpending => ?_, fun s g hw => execStageWriteCompletion_clear hw,
    fun s b n hw hwriting => ?_, fun s g n gen hw hstage hwriting => ?_,
    fun s g n gen c q hw hstage hwriting hhand hpending => ?_⟩
  · have hexec := execScheduleWriteCompletion_of hw
    rw [hwriting, if_pos rfl, State.adminDone_eq (s := s.scheduleWritten b n) hhand hpending] at hexec
    exact hexec
  · have hexec := execStageWriteCompletion_stage hw
    rw [State.stageWritten_queued (s := s.keyWritten g { s.former.keys[g] with stage := some gen }) hadmin] at hexec
    exact hexec
  · have hexec := execStageWriteCompletion_stage hw
    rw [State.stageWritten_refused (s := s.keyWritten g { s.former.keys[g] with stage := some gen }) hadmin,
      State.refuseAdmin_keyLoad _ _ hhand hpending] at hexec
    exact hexec
  · have hexec := execScheduleWriteCompletion_of hw
    rw [hwriting, if_neg Bool.false_ne_true] at hexec
    exact hexec
  · have hexec := execInstallWriteCompletion_of hw hstage
    rw [hwriting, if_neg Bool.false_ne_true] at hexec
    exact hexec
  · have hexec := execInstallWriteCompletion_of hw hstage
    rw [hwriting, if_pos rfl, State.adminDone_eq (s := s.keyWritten g (s.former.keys[g].installed gen n)) hhand
      hpending] at hexec
    exact hexec

end Sys2Proof.Machine
end

section
/-! PROOFS. What a committed entry writes to its meter record, and what a write leaves of the table (R55, R61). -/

namespace Sys2Proof.Machine

/-! ### The change of a record -/

theorem MeterRecord.change_opening (r : MeterRecord) (rolled : Bool) (month fixed arrears n : Nat) :
    r.change (.opening rolled month fixed arrears) n = { r with
      monthStamp := if rolled then month else r.monthStamp, monthTenths := if rolled then 0 else r.monthTenths
      freeTaken := if rolled then false else r.freeTaken, fixed := (if rolled then 0 else r.fixed) + fixed
      arrears := r.arrears - arrears, applied := n } := by
  cases rolled <;> rfl

theorem MeterRecord.change_update (r : MeterRecord) (v : UpdateValues) (n : Nat) : r.change (.update v) n = { r with
    schedule := v.schedule.getD r.schedule, arrears := v.arrears.getD r.arrears, recovery := v.recovery.getD r.recovery
    lastSeq := (v.move.map (·.floor)).getD (v.lastSeq.getD r.lastSeq), group := (v.move.map (·.group)).getD r.group
    revision := (v.move.map (·.revision)).getD r.revision, applied := n } := by
  obtain ⟨schedule, arrears, recovery, lastSeq, move⟩ := v
  cases move <;> rfl

/-! ### The table after a write -/

/-- The record a write leaves of a cell that is of its meter. -/
def MeterWrite.onCell (w : MeterWrite) (c : MeterCell) : MeterCell :=
  if c.record.number = w.meter then { c with record := c.record.change w.change w.number } else c

theorem MeterWrite.onCell_number (w : MeterWrite) (c : MeterCell) : (w.onCell c).record.number = c.record.number := by
  unfold MeterWrite.onCell
  split
  · exact c.record.change_number w.change w.number
  · rfl

theorem writeCells_create {cells : List MeterCell} {w : MeterWrite} {r : MeterRecord} (h : w.change = .create r) :
    writeCells cells w = insertCell cells { r with applied := w.number } := by
  rw [writeCells, h]

theorem writeCells_remove {cells : List MeterCell} {w : MeterWrite} (h : w.change = .remove) :
    writeCells cells w = cells.filter (fun c => c.record.number != w.meter) := by
  rw [writeCells, h]

theorem writeCells_change {cells : List MeterCell} {w : MeterWrite} (hcreate : ∀ r, w.change ≠ .create r)
    (hremove : w.change ≠ .remove) : writeCells cells w = cells.map w.onCell := by
  unfold writeCells
  split
  · next r h => exact absurd h (hcreate r)
  · next h => exact absurd h hremove
  all_goals rfl

theorem Meters.lookup_eq (cells : List MeterCell) (ws : List MeterWrite) (m : Nat) :
    Meters.lookup ⟨cells, ws⟩ m = cells.find? (fun c => c.record.number == m) := rfl

theorem find_insertCell_same (cells : List MeterCell) (r : MeterRecord) :
    (insertCell cells r).find? (fun c => c.record.number == r.number) = some ⟨r, none⟩ := by
  induction cells with
  | nil => simp [insertCell]
  | cons x xs ih =>
    unfold insertCell
    split
    · simp
    · split
      · simp
      · next hlt hne => rw [List.find?_cons_of_neg (by simpa using fun h => hne h.symm), ih]

theorem find_insertCell_other (cells : List MeterCell) (r : MeterRecord) {m : Nat} (hm : m ≠ r.number) :
    (insertCell cells r).find? (fun c => c.record.number == m) = cells.find? (fun c => c.record.number == m) := by
  have hnew : ¬ (fun c : MeterCell => c.record.number == m) ⟨r, none⟩ = true := by simpa using hm.symm
  induction cells with
  | nil => exact List.find?_cons_of_neg hnew
  | cons x xs ih =>
    unfold insertCell
    split
    · exact List.find?_cons_of_neg hnew
    · split
      · next heq =>
        have hold : ¬ (x.record.number == m) = true := by simpa [← heq] using hm.symm
        exact (List.find?_cons_of_neg (p := fun c : MeterCell => c.record.number == m) hnew).trans
          (List.find?_cons_of_neg (p := fun c : MeterCell => c.record.number == m) hold).symm
      · rw [List.find?_cons, List.find?_cons, ih]

theorem find_map_onCell (cells : List MeterCell) (w : MeterWrite) (m : Nat) :
    (cells.map w.onCell).find? (fun c => c.record.number == m) =
      (cells.find? (fun c => c.record.number == m)).map w.onCell := by
  rw [List.find?_map]
  exact congrArg (fun p => Option.map w.onCell (cells.find? p)) (funext fun c => congrArg (· == m) (w.onCell_number c))

theorem find_onCell_same (cells : List MeterCell) (w : MeterWrite) :
    (cells.find? (fun c => c.record.number == w.meter)).map w.onCell =
      (cells.find? (fun c => c.record.number == w.meter)).map
        (fun c => { c with record := c.record.change w.change w.number }) := by
  cases hc : cells.find? (fun c => c.record.number == w.meter) with
  | none => rfl
  | some c =>
    have hnum := List.find?_some hc
    exact congrArg some (if_pos (beq_iff_eq.mp hnum))

theorem find_onCell_other (cells : List MeterCell) (w : MeterWrite) {m : Nat} (hm : m ≠ w.meter) :
    (cells.find? (fun c => c.record.number == m)).map w.onCell = cells.find? (fun c => c.record.number == m) := by
  cases hc : cells.find? (fun c => c.record.number == m) with
  | none => rfl
  | some c =>
    have hnum := List.find?_some hc
    exact congrArg some (if_neg (by rw [beq_iff_eq.mp hnum]; exact hm))

theorem find_filter_same (cells : List MeterCell) (m : Nat) :
    (cells.filter (fun c => c.record.number != m)).find? (fun c => c.record.number == m) = none := by
  rw [List.find?_eq_none]
  intro c hc
  simpa using (List.mem_filter.mp hc).2

theorem find_filter_other (cells : List MeterCell) {m n : Nat} (hm : m ≠ n) :
    (cells.filter (fun c => c.record.number != n)).find? (fun c => c.record.number == m) =
      cells.find? (fun c => c.record.number == m) := by
  rw [List.find?_filter]
  refine congrArg (fun p => List.find? p cells) (funext fun c => ?_)
  by_cases h : c.record.number = m
  · simp [h, hm]
  · simp [h]

/-- Settles O50. -/
theorem recordChangesByKind : Obligations.RecordChangesByKind := by
  refine ⟨MeterRecord.change_opening, fun r seq tenths rev n => ⟨rfl, rfl, rfl, rfl⟩, fun r st n => rfl,
    MeterRecord.change_update, fun cells ws w hnum => ⟨fun m hm => ?_, fun hremove => ?_, fun r hcreate => ?_,
      fun hcreate hremove => ?_⟩⟩
  · rw [Meters.lookup_eq, Meters.lookup_eq]
    by_cases hcreate : ∃ r, w.change = .create r
    · obtain ⟨r, hcreate⟩ := hcreate
      rw [writeCells_create hcreate]
      exact find_insertCell_other cells _ (by rw [hnum r hcreate]; exact hm)
    · by_cases hremove : w.change = .remove
      · rw [writeCells_remove hremove]
        exact find_filter_other cells hm
      · rw [writeCells_change (fun r h => hcreate ⟨r, h⟩) hremove, find_map_onCell, find_onCell_other cells w hm]
  · rw [Meters.lookup_eq, writeCells_remove hremove]
    exact find_filter_same cells w.meter
  · rw [Meters.lookup_eq, writeCells_create hcreate, ← hnum r hcreate]
    exact find_insertCell_same cells { r with applied := w.number }
  · rw [Meters.lookup_eq, Meters.lookup_eq, writeCells_change hcreate hremove, find_map_onCell, find_onCell_same]

end Sys2Proof.Machine
end

section
/-! PROOFS. The units of a CREDIT plan: the slices of the token cap in order, and what they add up to (R49, R51). -/

namespace Sys2Proof.Machine

/-! ### Slice sizes -/

theorem lt_ceilDiv_iff {i t cap : Nat} (hcap : 1 ≤ cap) : i < ceilDiv t cap ↔ i * cap < t := by
  rw [ceilDiv, ← Nat.succ_le_iff, Nat.le_div_iff_mul_le hcap, Nat.succ_mul]
  omega

/-- The first n slices of t tenths hold n caps, or all of them. -/
theorem sum_sliceSizes_range (t cap n : Nat) :
    ((List.range n).map (fun i => min cap (t - i * cap))).sum = min t (n * cap) := by
  induction n with
  | zero => simp
  | succ n ih =>
    rw [List.range_succ, List.map_append, List.sum_append, ih, Nat.succ_mul]
    simp only [List.map_cons, List.map_nil, List.sum_cons, List.sum_nil]
    omega

theorem sliceSizes_sum {t cap : Nat} (hcap : 1 ≤ cap) : (sliceSizes t cap).sum = t := by
  have hall : ¬ ceilDiv t cap * cap < t := fun h => absurd ((lt_ceilDiv_iff hcap).mpr h) (Nat.lt_irrefl _)
  rw [sliceSizes, sum_sliceSizes_range]
  omega

@[simp] theorem sliceSizes_length (t cap : Nat) : (sliceSizes t cap).length = ceilDiv t cap := by simp [sliceSizes]

theorem sliceSizes_eq_some {t cap i n : Nat} (hcap : 1 ≤ cap) (h : (sliceSizes t cap)[i]? = some n) :
    i * cap < t ∧ n = min cap (t - i * cap) ∧ ((sliceSizes t cap).take i).sum = i * cap := by
  obtain ⟨hi, hn⟩ := List.getElem?_eq_some_iff.mp h
  rw [sliceSizes_length] at hi
  have hlt := (lt_ceilDiv_iff hcap).mp hi
  refine ⟨hlt, ?_, ?_⟩
  · rw [← hn]
    simp [sliceSizes]
  · rw [sliceSizes, ← List.map_take, List.take_range, Nat.min_eq_left (Nat.le_of_lt hi), sum_sliceSizes_range]
    omega

/-! ### Units of a list of sizes -/

theorem Schedule.cost_append (sch : Schedule) (pos m n : Nat) :
    sch.cost pos (m + n) = sch.cost pos m + sch.cost (pos + m) n := by
  simp only [Schedule.cost, List.range_add, List.map_append, List.sum_append, List.map_map, Function.comp_def,
    Nat.add_assoc]

theorem creditUnits_tenths (sch : Schedule) (pos : Nat) (sizes : List Nat) :
    (creditUnits sch pos sizes).map (·.tenths) = sizes := by
  induction sizes generalizing pos with
  | nil => rfl
  | cons n rest ih => rw [creditUnits, List.map_cons, ih]

theorem creditUnits_value_sum (sch : Schedule) (pos : Nat) (sizes : List Nat) :
    ((creditUnits sch pos sizes).map (·.value)).sum = sch.cost pos sizes.sum := by
  induction sizes generalizing pos with
  | nil => rfl
  | cons n rest ih =>
    rw [creditUnits, List.map_cons, List.sum_cons, ih, sch.runCost_eq_cost, List.sum_cons, sch.cost_append]

@[simp] theorem creditUnits_length (sch : Schedule) (pos : Nat) (sizes : List Nat) :
    (creditUnits sch pos sizes).length = sizes.length := by
  conv_rhs => rw [← creditUnits_tenths sch pos sizes, List.length_map]

theorem creditUnits_getElem? (sch : Schedule) (pos : Nat) (sizes : List Nat) (i : Nat) :
    (creditUnits sch pos sizes)[i]? =
      sizes[i]?.map (fun n => ⟨.credit, n, sch.cost (pos + (sizes.take i).sum) n⟩) := by
  induction sizes generalizing pos i with
  | nil => rfl
  | cons n rest ih =>
    cases i with
    | zero =>
      rw [creditUnits, sch.runCost_eq_cost]
      rfl
    | succ i =>
      rw [creditUnits, List.getElem?_cons_succ, List.getElem?_cons_succ, ih, List.take_succ_cons, List.sum_cons,
        Nat.add_assoc]

/-! ### The retained remainder -/

theorem addRetained_tenths (units : List PlanUnit) (r : Nat) : (addRetained units r).map (·.tenths) = units.map (·.tenths) := by
  fun_induction addRetained units r with
  | case1 => rfl
  | case2 => rfl
  | case3 u rest r hrest ih => rw [List.map_cons, List.map_cons, ih]

theorem addRetained_value_sum {units : List PlanUnit} (h : units ≠ []) (r : Nat) :
    ((addRetained units r).map (·.value)).sum = (units.map (·.value)).sum + r := by
  fun_induction addRetained units r with
  | case1 => exact absurd rfl h
  | case2 => simp
  | case3 u rest r hrest ih =>
    have hne : rest ≠ [] := fun he => hrest he
    rw [List.map_cons, List.sum_cons, ih hne, List.map_cons, List.sum_cons, Nat.add_assoc]

theorem addRetained_length (units : List PlanUnit) (r : Nat) : (addRetained units r).length = units.length := by
  have h := congrArg List.length (addRetained_tenths units r)
  rwa [List.length_map, List.length_map] at h

/-- The retained remainder stands in the value of the last unit. -/
theorem addRetained_getElem? (units : List PlanUnit) (r i : Nat) : (addRetained units r)[i]? =
    units[i]?.map (fun u => { u with value := u.value + if i + 1 = units.length then r else 0 }) := by
  fun_induction addRetained units r generalizing i with
  | case1 => rfl
  | case2 => cases i <;> rfl
  | case3 u rest r hrest ih =>
    have hne : rest.length ≠ 0 := fun he => hrest (List.length_eq_zero_iff.mp he)
    cases i with
    | zero => simp [hne]
    | succ i => rw [List.getElem?_cons_succ, List.getElem?_cons_succ, ih, List.length_cons]; simp

/-! ### The units of a CREDIT plan -/

/-- The units of an energy purchase: slices with the retained remainder in the last (R49). -/
def energyUnits (sch : Schedule) (pos tenths retained : Nat) : List PlanUnit :=
  addRetained (creditUnits sch pos (sliceSizes tenths sch.cap)) retained

section
variable {sch : Schedule} {pos tenths retained : Nat}

theorem energyUnits_length : (energyUnits sch pos tenths retained).length = ceilDiv tenths sch.cap := by
  rw [energyUnits, addRetained_length, creditUnits_length, sliceSizes_length]

theorem energyUnits_tenths_sum (hcap : 1 ≤ sch.cap) : ((energyUnits sch pos tenths retained).map (·.tenths)).sum = tenths := by
  rw [energyUnits, addRetained_tenths, creditUnits_tenths, sliceSizes_sum hcap]

theorem energyUnits_value_sum (hcap : 1 ≤ sch.cap) (htenths : tenths ≠ 0) :
    ((energyUnits sch pos tenths retained).map (·.value)).sum = sch.cost pos tenths + retained := by
  have hne : creditUnits sch pos (sliceSizes tenths sch.cap) ≠ [] := by
    rw [← List.length_pos_iff, creditUnits_length, sliceSizes_length, lt_ceilDiv_iff hcap]
    omega
  rw [energyUnits, addRetained_value_sum hne, creditUnits_value_sum, sliceSizes_sum hcap]

theorem energyUnits_eq_some {i : Nat} {u : PlanUnit} (hcap : 1 ≤ sch.cap)
    (h : (energyUnits sch pos tenths retained)[i]? = some u) :
    u.kind = .credit ∧ i * sch.cap < tenths ∧ u.tenths = min sch.cap (tenths - i * sch.cap) ∧
      u.value = sch.cost (pos + i * sch.cap) u.tenths + if tenths ≤ (i + 1) * sch.cap then retained else 0 := by
  rw [energyUnits, addRetained_getElem?, creditUnits_getElem?, Option.map_map, Option.map_eq_some_iff] at h
  obtain ⟨n, hn, rfl⟩ := h
  obtain ⟨hlt, hsize, hbefore⟩ := sliceSizes_eq_some hcap hn
  have hlast : i + 1 = (creditUnits sch pos (sliceSizes tenths sch.cap)).length ↔ tenths ≤ (i + 1) * sch.cap := by
    rw [creditUnits_length, sliceSizes_length]
    have hin := (lt_ceilDiv_iff hcap).mpr hlt
    have hnext := lt_ceilDiv_iff (i := i + 1) (t := tenths) hcap
    omega
  refine ⟨rfl, hlt, hsize, ?_⟩
  simp only [Function.comp_apply, hbefore, hlast]

end

theorem rekeyUnits_length (rekey : Bool) : (rekeyUnits rekey).length = rekeyCount rekey := by cases rekey <;> rfl

theorem rekeyUnits_sums (rekey : Bool) :
    ((rekeyUnits rekey).map (·.tenths)).sum = 0 ∧ ((rekeyUnits rekey).map (·.value)).sum = 0 := by
  cases rekey <;> exact ⟨rfl, rfl⟩

/-- The units of a CREDIT plan are the rekey units, and after them the slices of its energy when it buys any. -/
theorem creditPlan_units {sch : Schedule} {r : MeterRecord} {tender month : Nat} {rekey : Bool} {p : Plan}
    (h : creditPlan sch r tender month rekey = .ok p) :
    p.tenths = 0 ∧ p.value = 0 ∧ p.units = rekeyUnits rekey ∨
      p.tenths ≠ 0 ∧ ceilDiv p.tenths sch.cap + rekeyCount rekey ≤ 16 ∧
        p.units = rekeyUnits rekey ++ energyUnits sch (r.rolledOver month).monthTenths p.tenths p.retained := by
  obtain ⟨-, ⟨-, -, rfl⟩ | ⟨htenths, hunits, rfl⟩⟩ := creditPlan_ok rfl h
  · exact .inl ⟨rfl, rfl, rfl⟩
  · exact .inr ⟨htenths, hunits, rfl⟩

/-- The value of a CREDIT plan is the cost of its energy and the retained remainder (R46). -/
theorem creditPlan_value {sch : Schedule} {r : MeterRecord} {tender month : Nat} {rekey : Bool} {p : Plan}
    (h : creditPlan sch r tender month rekey = .ok p) :
    p.value = sch.cost (r.rolledOver month).monthTenths p.tenths + p.retained := by
  obtain ⟨-, -, -, htenths, hchange, hretained, hvalue⟩ := creditPlan_figures rfl h
  have hbalance := creditFigures_balance sch (r.rolledOver month) tender
  rw [← htenths] at hbalance
  omega

/-- Settles O59. -/
theorem slicesPartitionTheEnergy : Obligations.SlicesPartitionTheEnergy := by
  intro sch r tender month rekey p pos h hcap hpos
  have hcap1 : 1 ≤ sch.cap := by omega
  rw [← MeterRecord.rolledOver_monthTenths] at hpos
  have hvalue := creditPlan_value h
  rw [← hpos] at hvalue
  obtain ⟨hsum, hvalues⟩ := rekeyUnits_sums rekey
  change p.units.take (rekeyCount rekey) = rekeyUnits rekey ∧ p.units.length ≤ 16 ∧
    (p.units.map (·.tenths)).sum = p.tenths ∧ (p.units.map (·.value)).sum = p.value ∧
    ∀ (i : Nat) (u : PlanUnit), p.units[rekeyCount rekey + i]? = some u → _
  rw [← rekeyUnits_length]
  rcases creditPlan_units h with ⟨htenths, hzero, hunits⟩ | ⟨htenths, hcount, hunits⟩
  · rw [hunits, htenths, hzero]
    refine ⟨List.take_length, ?_, hsum, hvalues, fun i u hu => ?_⟩
    · cases rekey <;> decide
    · rw [List.getElem?_eq_none (Nat.le_add_right _ _)] at hu
      cases hu
  · rw [← hpos] at hunits
    rw [hunits]
    refine ⟨List.take_left, ?_, ?_, ?_, fun i u hu => ?_⟩
    · rw [List.length_append, energyUnits_length, rekeyUnits_length]
      omega
    · rw [List.map_append, List.sum_append, hsum, energyUnits_tenths_sum hcap1, Nat.zero_add]
    · rw [List.map_append, List.sum_append, hvalues, energyUnits_value_sum hcap1 htenths, Nat.zero_add, hvalue]
    · rw [List.getElem?_append_right (Nat.le_add_right _ _), Nat.add_sub_cancel_left] at hu
      exact energyUnits_eq_some hcap1 hu

end Sys2Proof.Machine
end

section
/-! PROOFS. How the recovery scan begins and goes on: voiding, erasing, replay, stage clearing, the open vends and START
(R172 to R178, R180). -/

namespace Sys2Proof.Machine

/-! ### The scan's begin -/

section
variable {s : State}

/-- The state in which the scan's first step begins: the reset line clear, the store to be read (R172). -/
def State.scanBegun (s : State) : State :=
  { s with watch := { s.watch with resetLine := false, scan := { s.watch.scan with stage := .readStore } } }

theorem execRecoveryScanBegin_of (hsupply : s.watch.supply = true) (hpart : s.watch.part = .starting)
    (hstage : s.watch.scan.stage = .notBegun) :
    execRecoveryScanBegin s = .next s.scanBegun.scanAdvance.journalLook := by
  have hproceed : s.scanBegun.proceed = s.scanBegun.scanAdvance.journalLook := by
    unfold State.proceed
    have hp : s.scanBegun.watch.part = .starting := hpart
    rw [hp]
  exact congrArg Host.Outcome.next ((if_pos ⟨hsupply, hpart, hstage⟩).trans hproceed)

theorem State.scanAdvance_paused (h : s.watch.warning = true) : s.scanAdvance = s := by
  unfold State.scanAdvance
  exact if_pos h

/-- The first step reads the store and voids the trail's half-written entry slots (R173). -/
theorem State.scanAdvance_begun (h : s.watch.warning = false) :
    s.scanBegun.scanAdvance = s.scanBegun.scanVoid s.journal.toVoid := by
  unfold State.scanAdvance
  exact if_neg (by rw [Bool.not_eq_true]; exact h)

theorem State.journalLook_paused (h : s.paused = true) : s.journalLook = s := by
  unfold State.journalLook
  exact if_neg (by rw [h]; simp)

theorem State.journalLook_busy (h : s.journal.op ≠ .idle) : s.journalLook = s := by
  unfold State.journalLook
  exact if_neg (fun hc => h hc.2.1)

end

/-- From the delivered part the START entry is programmed at once. -/
theorem execRecoveryScanBegin_reset : execRecoveryScanBegin State.reset = .next { State.reset with
    watch := { State.reset.watch with scan := ⟨.starting, 0, 0⟩ }
    clock := { State.reset.clock with taken := 0 }
    journal := { State.reset.journal with
      tail := some 0, op := .program 0 1 0, queue := [⟨.slot 0, 0, false, .start .cold 0 0⟩] } } := by
  rfl

/-- Settles O53. -/
theorem recoveryScanBegins : Obligations.RecoveryScanBegins := by
  refine ⟨fun s hsupply hpart hstage => ?_, execRecoveryScanBegin_reset⟩
  have hexec := execRecoveryScanBegin_of hsupply hpart hstage
  refine ⟨fun hwarning => ?_, fun a rest hwarning _ hvoid => ?_, fun p rest hwarning _ hvoid herase => ?_⟩
  · have hpaused : s.scanBegun.paused = true := by
      unfold State.paused
      rw [Bool.and_eq_true, beq_iff_eq]
      exact ⟨hpart, hwarning⟩
    rw [State.scanAdvance_paused (s := s.scanBegun) hwarning, State.journalLook_paused hpaused] at hexec
    exact hexec
  · rw [State.scanAdvance_begun hwarning, hvoid, State.scanVoid, State.journalLook_busy (by intro hc; cases hc)] at hexec
    exact hexec
  · rw [State.scanAdvance_begun hwarning, hvoid, State.scanVoid] at hexec
    have hlist : s.scanBegun.journal.partErased = p :: rest := herase
    rw [hlist, State.scanErase, State.journalLook_busy (by intro hc; cases hc)] at hexec
    exact hexec

end Sys2Proof.Machine
end

section
/-! PROOFS. The scan from its third step on: the journal's state, the replay, the stages, the open vends and START
(R86, R156, R175 to R178). -/

namespace Sys2Proof.Machine

/-! ### The entries in the store -/

/-- In a canonical store the bytes of an entry slot are those the store lists for it. -/
theorem Journal.cell_eq_some {j : Journal} (h : Rising (j.store.map (·.1))) {a : Nat} {c : SlotContent} :
    j.cell a = some c ↔ (a, c) ∈ j.store := by
  unfold Journal.cell
  rw [Option.map_eq_some_iff]
  constructor
  · rintro ⟨x, hx, rfl⟩
    have ha := List.find?_some hx
    rw [← beq_iff_eq.mp ha]
    exact List.mem_of_find?_eq_some hx
  · intro hmem
    cases hf : j.store.find? (fun x => x.1 == a) with
    | none => exact absurd (List.find?_eq_none.mp hf _ hmem) (by simp)
    | some x =>
      have ha := List.find?_some hf
      have hx := List.mem_of_find?_eq_some hf
      have heq : x = (a, c) := by
        have hinj := List.inj_on_of_nodup_map (List.Pairwise.imp Nat.ne_of_lt h)
        exact hinj hx hmem (beq_iff_eq.mp ha)
      exact ⟨x, rfl, by rw [heq]⟩

theorem Journal.content_eq_written {j : Journal} (h : Rising (j.store.map (·.1))) {a : Nat} {e : Entry} :
    j.content a = some (.written e) ↔ ∃ c, (a, c) ∈ j.store ∧ c.judged = .written e := by
  unfold Journal.content
  rw [Option.map_eq_some_iff]
  exact exists_congr fun c => and_congr_left fun _ => Journal.cell_eq_some h

theorem mem_entriesOf {cs : List (Nat × SlotContent)} {e : Entry} :
    e ∈ entriesOf cs ↔ ∃ c ∈ cs, c.2.judged = .written e := by
  simp only [entriesOf, judgedSlots, List.mem_filterMap, List.mem_map]
  constructor
  · rintro ⟨_, ⟨c, hc, rfl⟩, h⟩
    refine ⟨c, hc, ?_⟩
    dsimp only at h
    split at h
    · next f hf => rw [hf, Option.some.inj h]
    · cases h
    · cases h
  · rintro ⟨c, hc, h⟩
    exact ⟨(c.1, c.2.judged), ⟨c, hc, rfl⟩, by rw [h]⟩

theorem entriesOf_append (a b : List (Nat × SlotContent)) : entriesOf (a ++ b) = entriesOf a ++ entriesOf b := by
  simp only [entriesOf, judgedSlots, List.map_append, List.filterMap_append]

/-- With no erase under way every entry slot is in the journal's order: pages after the tail, then the pages to it. -/
theorem Journal.entries_idle {j : Journal} (hop : j.op = .idle) : j.entries =
    entriesOf (j.store.filter (fun c => j.tail.elim 128 id < c.1 / 32)) ++
      entriesOf (j.store.filter (fun c => c.1 / 32 ≤ j.tail.elim 128 id)) := by
  have hlive : j.store.filter (fun c => !j.erasingPage (c.1 / slotsPerPage)) = j.store := by
    refine List.filter_eq_self.mpr fun c _ => ?_
    unfold Journal.erasingPage
    rw [hop]
    rfl
  unfold Journal.entries
  dsimp only
  rw [hlive, entriesOf_append]

theorem Journal.mem_entries_idle {j : Journal} (hrising : Rising (j.store.map (·.1))) (hop : j.op = .idle) (e : Entry) :
    e ∈ j.entries ↔ ∃ a, j.content a = some (.written e) := by
  rw [Journal.entries_idle hop, List.mem_append, mem_entriesOf, mem_entriesOf]
  constructor
  · rintro (⟨c, hc, h⟩ | ⟨c, hc, h⟩) <;>
      exact ⟨c.1, (Journal.content_eq_written hrising).mpr ⟨c.2, (List.mem_filter.mp hc).1, h⟩⟩
  · rintro ⟨a, ha⟩
    obtain ⟨c, hc, h⟩ := (Journal.content_eq_written hrising).mp ha
    rcases Nat.lt_or_ge (j.tail.elim 128 id) (a / 32) with hcut | hcut
    · exact .inl ⟨(a, c), List.mem_filter.mpr ⟨hc, decide_eq_true hcut⟩, h⟩
    · exact .inr ⟨(a, c), List.mem_filter.mpr ⟨hc, decide_eq_true hcut⟩, h⟩

/-! ### Replay and stages -/

section
variable {s : State}

theorem State.scanReplay_none {e : Entry} (h : s.replay? e = none) (rest : List Entry) :
    s.scanReplay (e :: rest) = s.scanReplay rest := by
  rw [State.scanReplay, h]

theorem State.scanReplay_some {e : Entry} {u : State} (h : s.replay? e = some u) (rest : List Entry) :
    s.scanReplay (e :: rest) = u.countReplay rest := by
  rw [State.scanReplay, h]

theorem Former.staged_eq_some {f : Former} {g : Fin 4} (hg : f.keys[g].stage ≠ none)
    (hbefore : ∀ g' : Fin 4, g' < g → f.keys[g'].stage = none) : f.staged = some g := by
  have hsome : f.keys[g].stage.isSome = true := Option.isSome_iff_ne_none.mpr hg
  have hnone : ∀ g' : Fin 4, g' < g → f.keys[g'].stage.isSome = false := fun g' h => by rw [hbefore g' h]; rfl
  have hlist : ([0, 1, 2, 3] : List (Fin 4)) = List.finRange 4 := rfl
  unfold Former.staged
  rw [hlist, List.find?_eq_some_iff_getElem]
  refine ⟨hsome, g.val, by simp, by simp, fun i hi => ?_⟩
  rw [List.getElem_finRange, Bool.not_eq_true']
  exact hnone _ hi

theorem Former.staged_eq_none {f : Former} (h : ∀ g : Fin 4, f.keys[g].stage = none) : f.staged = none := by
  unfold Former.staged
  rw [List.find?_eq_none]
  intro g _
  rw [h g]
  exact Bool.false_ne_true

theorem State.scanClear_staged {g : Fin 4} (h : s.former.staged = some g) : s.scanClear = { s with
    watch := { s.watch with scan := { s.watch.scan with stage := .clearing } }
    former := { s.former with keyWrite := some (.clear g) } } := by
  unfold State.scanClear
  rw [h]
  rfl

theorem State.scanClear_clean (h : s.former.staged = none) : s.scanClear = State.scanClose { s with
    clock := { s.clock with
      month := if s.watch.startKind = .cold then s.clock.settingsMonth else s.clock.month } } := by
  unfold State.scanClear
  rw [h]
  dsimp only
  cases s.watch.startKind <;> rfl

/-! ### Open vends -/

theorem Journal.ended_iff {j : Journal} {n : Nat} :
    j.ended n = true ↔ ∃ x ∈ j.entries, ∃ d, x.body = .vendEnd d ∧ d.vend = n := by
  unfold Journal.ended
  rw [List.any_eq_true]
  refine exists_congr fun x => and_congr_right fun _ => ?_
  cases x.body <;> simp

/-- The first open vend: a VEND_OPEN with no VEND_END in the store, behind none but closed ones. -/
theorem Journal.openVend?_eq_some {j : Journal} {before after : List Entry} {e : Entry} {o : OpenEntry}
    (hentries : j.entries = before ++ e :: after) (hbody : e.body = .vendOpen o)
    (hopen : ∀ x ∈ j.entries, ∀ d, x.body = .vendEnd d → d.vend ≠ e.number)
    (hbefore : ∀ y ∈ before, ∀ p, y.body = .vendOpen p → j.ended y.number = true) : j.openVend? = some (e, o) := by
  have hnot : j.ended e.number = false := by
    rw [Bool.eq_false_iff, Ne, Journal.ended_iff]
    rintro ⟨x, hx, d, hd, hnum⟩
    exact hopen x hx d hd hnum
  unfold Journal.openVend?
  rw [hentries, List.findSome?_append, List.findSome?_eq_none_iff.mpr ?_, Option.none_or, List.findSome?_cons, hbody]
  · dsimp only
    rw [hnot]
    rfl
  · intro y hy
    cases hy' : y.body with
    | vendOpen p => exact if_pos (hbefore y hy p hy')
    | _ => rfl

theorem Journal.openVend?_eq_none {j : Journal}
    (h : ∀ y ∈ j.entries, ∀ p, y.body = .vendOpen p → j.ended y.number = true) : j.openVend? = none := by
  unfold Journal.openVend?
  rw [List.findSome?_eq_none_iff]
  intro y hy
  cases hy' : y.body with
  | vendOpen p => exact if_pos (h y hy p hy')
  | _ => rfl

theorem State.scanClose_open {e : Entry} {o : OpenEntry} (h : s.journal.openVend? = some (e, o)) :
    s.scanClose = (s.setStage .closing).enqueue (s.journal.closingEntry e o) := by
  unfold State.scanClose
  rw [h]

theorem State.scanClose_none (h : s.journal.openVend? = none) : s.scanClose = s.placeStart := by
  unfold State.scanClose
  rw [h]

/-- The third step sets the last number and the tail, at a cold start the clock's taken-through, and begins the replay
(R175, R176). -/
theorem State.scanVoid_clean {last : Nat} (herase : s.journal.partErased = [])
    (hlast : last = (s.journal.highest.map (fun h => h.2.number)).getD 0) : s.scanVoid [] =
      (State.scanReplay { s with
        journal := { s.journal with last := last, tail := s.journal.scanTail }
        clock := { s.clock with taken := if s.watch.startKind = .cold then last else s.clock.taken } }
        { s.journal with last := last, tail := s.journal.scanTail }.entries) := by
  have hset : s.setJournalState = { s with
      journal := { s.journal with last := last, tail := s.journal.scanTail }
      clock := { s.clock with taken := if s.watch.startKind = .cold then last else s.clock.taken } } := by
    unfold State.setJournalState
    rw [← hlast]
    cases s.watch.startKind <;> rfl
  rw [State.scanVoid, herase, State.scanErase]
  dsimp only
  rw [hset]

end

/-- Settles O55. -/
theorem scanStepsThreeToSix : Obligations.ScanStepsThreeToSix := by
  refine ⟨?_, fun j hrising hop => ⟨Journal.mem_entries_idle hrising hop, fun p hp => ?_⟩, fun s => rfl,
    fun s e rest => ⟨fun h => State.scanReplay_none h rest, fun u h => State.scanReplay_some h rest⟩,
    fun s => ⟨fun g hg hbefore => State.scanClear_staged (Former.staged_eq_some hg hbefore),
      fun h => State.scanClear_clean (Former.staged_eq_none h)⟩, fun s => ⟨?_, fun h => ?_⟩⟩
  · rintro s u last hsupply hpart hstage hwarning hvoid herase hlast rfl
    have hexec := execRecoveryScanBegin_of hsupply hpart hstage
    rw [State.scanAdvance_begun hwarning, hvoid, State.scanVoid_clean (s := s.scanBegun) herase hlast] at hexec
    exact hexec
  · have hentries := Journal.entries_idle hop
    rw [hp] at hentries
    exact hentries
  · rintro before after e o tokens hentries hbody hopen hbefore rfl
    exact State.scanClose_open (Journal.openVend?_eq_some hentries hbody hopen
      fun y hy p hp => Journal.ended_iff.mpr (hbefore y hy p hp))
  · exact State.scanClose_none (Journal.openVend?_eq_none fun y hy p hp => Journal.ended_iff.mpr (h y hy p hp))

end Sys2Proof.Machine
end

section
/-! PROOFS. An entry of the replay offered to its record's owner (R36, R62, R86, R105, R165, R176), and the commits of the
scan's own entries (R97, R106, R177, R178). -/

namespace Sys2Proof.Machine

section
variable {s : State} {e : Entry}

/-! ### Meter and float records -/

theorem State.replayMeter_of_lookup {m n : Nat} {cell : MeterCell} (h : s.meters.lookup m = some cell)
    (c : MeterRecord → RecordChange) : s.replayMeter m n c = if cell.record.applied < n then
      some { s with meters := { s.meters with writes := s.meters.writes ++ [⟨.replay, m, c cell.record, n⟩] } }
    else none := by
  unfold State.replayMeter
  rw [h]
  rfl

theorem State.replayMeter_of_none {m n : Nat} (h : s.meters.lookup m = none) (c : MeterRecord → RecordChange) :
    s.replayMeter m n c = none := by
  unfold State.replayMeter
  rw [h]

/-- The entries whose record is that of a meter, and the change each writes to it. -/
def EntryBody.meterChange (b : EntryBody) (m : Nat) (r : MeterRecord) (c : RecordChange) : Prop :=
  (∃ o, b = .vendOpen o ∧ o.meter = m ∧ c = .opening (r.monthStamp != o.month) o.month o.fixed o.arrears) ∨
    (∃ t, b = .token t ∧ t.meter = m ∧ c = .token t.kind t.seq t.tenths ((t.revision + 1) % 16)) ∨
    (b = .retire m ∧ c = .remove) ∨ (∃ v, b = .meterUpdate m v ∧ c = .update v) ∨
    ∃ st, b = .meterHold m st ∧ c = .state st

theorem State.replay?_meter {m : Nat} {cell : MeterCell} {c : RecordChange} (h : s.meters.lookup m = some cell)
    (hbody : e.body.meterChange m cell.record c) : s.replay? e = if cell.record.applied < e.number then
      some { s with meters := { s.meters with writes := s.meters.writes ++ [⟨.replay, m, c, e.number⟩] } }
    else none := by
  unfold State.replay?
  obtain ⟨o, hb, rfl, rfl⟩ | ⟨t, hb, rfl, rfl⟩ | ⟨hb, rfl⟩ | ⟨v, hb, rfl⟩ | ⟨st, hb, rfl⟩ := hbody <;> rw [hb] <;>
    exact State.replayMeter_of_lookup h _

theorem State.replay?_unknown {m : Nat} (h : s.meters.lookup m = none)
    (hbody : (∃ o, e.body = .vendOpen o ∧ o.meter = m) ∨ (∃ t, e.body = .token t ∧ t.meter = m) ∨ e.body = .retire m ∨
      (∃ v, e.body = .meterUpdate m v) ∨ ∃ st, e.body = .meterHold m st) : s.replay? e = none := by
  unfold State.replay?
  obtain ⟨o, hb, rfl⟩ | ⟨t, hb, rfl⟩ | hb | ⟨v, hb⟩ | ⟨st, hb⟩ := hbody <;> rw [hb] <;>
    exact State.replayMeter_of_none h _

theorem State.replay?_enrol {r : MeterRecord} (hbody : e.body = .enrol r) :
    (s.meters.lookup r.number = none → s.replay? e = some { s with
      meters := { s.meters with writes := s.meters.writes ++ [⟨.replay, r.number, .create r, e.number⟩] } }) ∧
    (s.meters.lookup r.number ≠ none → s.replay? e = none) := by
  unfold State.replay?
  rw [hbody]
  dsimp only
  cases s.meters.lookup r.number with
  | none => exact ⟨fun _ => rfl, fun h => absurd rfl h⟩
  | some c => exact ⟨fun h => (by cases h), fun _ => rfl⟩

theorem State.replay?_float {r : FloatRecord}
    (h : (∃ g a c x, e.body = .grant g a c x ∧ r = ⟨s.float.work.balance + a * 100, c, x, g, e.number⟩) ∨
      (∃ a, e.body = .recall a ∧
        r = { s.float.work with balance := s.float.work.balance - a * 100, applied := e.number }) ∨
      ∃ d, e.body = .vendEnd d ∧ r = { s.float.work with
        balance := s.float.work.balance - (s.journal.openValue d.vend - d.undelivered), applied := e.number }) :
    s.replay? e = if s.float.work.applied < e.number then
      some { s with float := { s.float with work := r, writes := s.float.writes ++ [⟨r, .nothing⟩] } } else none := by
  unfold State.replay?
  obtain ⟨g, a, c, x, hb, rfl⟩ | ⟨a, hb, rfl⟩ | ⟨d, hb, rfl⟩ := h <;> rw [hb] <;> rfl

/-! ### Schedules, keys, the clock -/

theorem State.replay?_tariffLoad {b : TariffBody} (hbody : e.body = .tariffLoad b) :
    s.replay? e = if (s.tariff.schedule b.schedule).applied < e.number then
      some { s with tariff := { s.tariff with write := some (b, e.number) } } else none := by
  unfold State.replay?
  rw [hbody]

theorem State.replay?_keyLoad {g rev : Nat} (hbody : e.body = .keyLoad g rev) : s.replay? e =
    if (s.former.entry g).applied < e.number ∧ (s.former.entry g).stage.map (·.revision) = some rev then
      some { s with former := { s.former with keyWrite := some (.install (Fin.ofNat 4 g) e.number) } } else none := by
  unfold State.replay?
  rw [hbody]

theorem State.replay?_clockSet {old new month : Nat} (hbody : e.body = .clockSet old new month) :
    s.replay? e = s.replayClock old new month e.number := by
  unfold State.replay?
  rw [hbody]

theorem State.replay?_slotEntry (h : (∃ b, e.body = .bind b) ∨ (∃ t, e.body = .unbind t) ∨
    (∃ t, e.body = .shiftClose t) ∨ ∃ k r c, e.body = .start k r c) : s.replay? e = none := by
  unfold State.replay?
  obtain ⟨b, hb⟩ | ⟨t, hb⟩ | ⟨t, hb⟩ | ⟨k, r, c, hb⟩ := h <;> rw [hb]

variable {old new month n : Nat}

theorem State.replayClock_applied (h : n ≤ s.clock.settingsApplied) : s.replayClock old new month n = none := by
  unfold State.replayClock
  exact if_neg (Nat.not_lt.mpr h)

theorem State.replayClock_settings (h : s.clock.settingsApplied < n)
    (hkeep : s.watch.startKind = .cold ∨ n ≤ s.clock.taken) : s.replayClock old new month n =
      some { s with clock := { s.clock with settingsWrite := some ⟨month, n, none, .frozen, false⟩ } } := by
  have hnot : ¬(s.watch.startKind = .warm ∧ s.clock.taken < n) := by
    rintro ⟨hwarm, hlt⟩
    rcases hkeep with hcold | hle
    · cases hwarm.symm.trans hcold
    · omega
  unfold State.replayClock
  rw [if_pos h, if_neg hnot]

theorem State.replayClock_running (h : s.clock.settingsApplied < n) (hwarm : s.watch.startKind = .warm)
    (hlt : s.clock.taken < n) : s.replayClock old new month n = some { s with clock := { s.clock with
      state := .running, month := month, taken := n, settingsWrite := some ⟨month, n, none, .frozen, false⟩
      seconds := if s.clock.state = .running then min 4294967295 (s.clock.seconds + new - old) else new } } := by
  unfold State.replayClock
  rw [if_pos h, if_pos ⟨hwarm, hlt⟩]
  unfold Clock.replay
  cases hstate : s.clock.state <;> rfl

/-! ### The scan's own entries -/

/-- The scan's last step judges the float and enters RUN when the warning is clear (R178). -/
theorem State.scanFinish_eq {live : Bool}
    (h : live = true ↔ s.clock.state = .running ∧ s.clock.seconds < s.float.work.expiry) : s.scanFinish = { s with
      float := { s.float with state := if live then .live else .frozen }
      clock := s.clock.setChannel 0 (if live then some s.float.work.expiry else none)
      watch := { s.watch with
        scan := { s.watch.scan with stage := .ended }, part := if s.watch.warning then s.watch.part else .run } } := by
  unfold State.scanFinish
  rw [State.judge_of h]
  dsimp only
  cases hw : s.watch.warning <;> rfl

end

/-- Settles O56. -/
theorem replayAndScanEntries : Obligations.ReplayAndScanEntries := by
  refine ⟨⟨fun s e m cell c hlookup hbody => State.replay?_meter hlookup hbody, fun s e r h => State.replay?_float h,
    fun s e b hbody => State.replay?_tariffLoad hbody, fun s e m hlookup hbody => State.replay?_unknown hlookup hbody,
    fun s e r hbody => State.replay?_enrol hbody, fun s e g rev hbody => ⟨fun happlied hstage => ?_, fun h => ?_⟩, ?_,
    fun s e h => State.replay?_slotEntry h⟩, ?_, ?_⟩
  · rw [State.replay?_keyLoad hbody]
    obtain ⟨gen, hgen, hrev⟩ := hstage
    exact if_pos ⟨happlied, by rw [hgen, Option.map_some, hrev]⟩
  · rw [State.replay?_keyLoad hbody]
    refine if_neg fun ⟨happlied, hstage⟩ => ?_
    obtain ⟨gen, hgen, hrev⟩ := Option.map_eq_some_iff.mp hstage
    rcases h with hle | hne
    · omega
    · exact hne gen hgen hrev
  · rintro s e old new month w hbody rfl
    rw [State.replay?_clockSet hbody]
    exact ⟨State.replayClock_applied, State.replayClock_settings, State.replayClock_running⟩
  · rintro s e n d r hbody hpart rfl
    rw [State.commitBody, hbody]
    exact if_pos hpart
  · intro s e n kind a b live hbody hlive
    rw [State.commitBody, hbody]
    exact State.scanFinish_eq hlive

end Sys2Proof.Machine
end

section
/-! PROOFS. The resets: what they set, and what is nonvolatile and kept (R33, R105, R135, R154, R167, R171). -/

namespace Sys2Proof.Machine

/-! ### Operations cut short -/

/-- What a store keeps is said of its entry slots and worn pages alone. -/
theorem Journal.KeepsStore.congr {j j' j'' : Journal} (h : j.KeepsStore j') (hstore : j''.store = j'.store)
    (hworn : j''.worn = j'.worn) : j.KeepsStore j'' := by
  have hcontent : ∀ b, j''.content b = j'.content b := fun b => by simp only [Journal.content, Journal.cell, hstore]
  simpa only [Journal.KeepsStore, hstore, hworn, hcontent] using h

theorem Journal.keepsStore_refl (j : Journal) : j.KeepsStore j :=
  ⟨fun _ => ⟨rfl, rfl⟩, fun _ _ _ _ => ⟨rfl, fun _ _ => rfl⟩, fun _ _ => ⟨rfl, fun _ _ => rfl⟩,
    fun _ _ => ⟨rfl, fun _ _ => rfl⟩, fun _ _ => ⟨fun _ _ => rfl, fun _ _ _ => Iff.rfl⟩⟩

theorem Journal.keepsStore_put {j : Journal} {a : Nat} (c : SlotContent)
    (hop : (∃ n x, j.op = .program a n x) ∨ j.op = .voidMark a) : j.KeepsStore (j.put a c) := by
  have other : ∀ b, b ≠ a → (j.put a c).content b = j.content b := fun b hb => by rw [Journal.put_content, if_neg hb]
  obtain ⟨n, x, hop⟩ | hop := hop
  · refine ⟨fun h => ?_, fun a' n' x' h => ?_, fun a' h => ?_, fun p h => ?_, fun p h => ?_⟩ <;> cases hop.symm.trans h
    exact ⟨rfl, other⟩
  · refine ⟨fun h => ?_, fun a' n' x' h => ?_, fun a' h => ?_, fun p h => ?_, fun p h => ?_⟩ <;> cases hop.symm.trans h
    exact ⟨rfl, other⟩

theorem Journal.keepsStore_tearPage {j : Journal} {p : Nat} (torn : Nat → TornErase) (hop : j.op = .erase p) :
    j.KeepsStore (j.setPage p (j.tearPage p torn)) := by
  refine ⟨fun h => ?_, fun a' n' x' h => ?_, fun a' h => ?_, fun p h => ?_, fun p h => ?_⟩ <;> cases hop.symm.trans h
  exact ⟨by rw [Journal.setPage_eq], fun b hb => Journal.setPage_content_other (fun c hc => tearPage_page hc) hb⟩

theorem Journal.keepsStore_wearPage {j : Journal} {p : Nat} (hop : j.op = .wornMark p) : j.KeepsStore (j.wearPage p) := by
  refine ⟨fun h => ?_, fun a' n' x' h => ?_, fun a' h => ?_, fun p h => ?_, fun p h => ?_⟩ <;> cases hop.symm.trans h
  refine ⟨fun b hb => (j.blankPage_content p b).trans (if_neg hb), fun q hq hqp => ?_⟩
  rw [Journal.mem_wearPage_worn]
  exact ⟨fun h => h.2.resolve_left hqp, fun h => ⟨hq, .inr h⟩⟩

/-- An operation of the store cut short leaves every entry slot and page but those it was writing (R117, R135, R171). -/
theorem Journal.keepsStore_tearOp (j : Journal) (n : Nat) : j.KeepsStore (j.tearOp n) := by
  unfold Journal.tearOp
  cases hop : j.op with
  | idle => exact j.keepsStore_refl
  | program a number time =>
    have torn := fun c => Journal.keepsStore_put c (.inl ⟨number, time, hop⟩)
    cases Config.tornProgram n with
    | blank => exact j.keepsStore_refl
    | halfWritten => exact torn _
    | written =>
      cases j.queue with
      | nil => exact j.keepsStore_refl
      | cons e rest => exact torn _
  | voidMark a =>
    have torn := fun c => Journal.keepsStore_put c (.inr hop)
    dsimp only
    split
    · exact torn _
    · exact torn _
  | erase p => exact Journal.keepsStore_tearPage _ hop
  | wornMark p =>
    dsimp only
    split
    · exact Journal.keepsStore_wearPage hop
    · exact j.keepsStore_refl

/-- An operation cut short leaves the mark and the header write. -/
theorem Journal.tearOp_header (j : Journal) (n : Nat) : (j.tearOp n).mark = j.mark ∧ (j.tearOp n).header = j.header := by
  unfold Journal.tearOp
  cases j.op with
  | idle => exact ⟨rfl, rfl⟩
  | program a number time =>
    cases Config.tornProgram n with
    | blank => exact ⟨rfl, rfl⟩
    | halfWritten => exact ⟨rfl, rfl⟩
    | written => cases j.queue <;> exact ⟨rfl, rfl⟩
  | voidMark a =>
    dsimp only
    split <;> exact ⟨rfl, rfl⟩
  | erase p =>
    dsimp only
    rw [Journal.setPage_eq]
    exact ⟨rfl, rfl⟩
  | wornMark p =>
    dsimp only
    split <;> exact ⟨rfl, rfl⟩

theorem Journal.tearHeader_store (j : Journal) (n : Nat) :
    (j.tearHeader n).store = j.store ∧ (j.tearHeader n).worn = j.worn := by
  unfold Journal.tearHeader
  split
  · exact ⟨rfl, rfl⟩
  · split <;> exact ⟨rfl, rfl⟩

/-- A header write cut short is made whole or not made (R131). -/
theorem Journal.tearHeader_mark (j : Journal) (n : Nat) :
    (j.tearHeader n).mark = j.mark ∨ ∃ w, j.header = some w ∧ (j.tearHeader n).mark = w.target := by
  unfold Journal.tearHeader
  split
  · exact .inl rfl
  · next w hw =>
    split
    · exact .inr ⟨w, hw, rfl⟩
    · exact .inl rfl

theorem Meters.tear_cells (m : Meters) (n : Nat) :
    (m.tear n).cells = m.cells ∨ ∃ w rest, m.writes = w :: rest ∧ (m.tear n).cells = writeCells m.cells w := by
  unfold Meters.tear
  split
  · exact .inl rfl
  · next w rest hw =>
    split
    · exact .inr ⟨w, rest, hw, rfl⟩
    · exact .inl rfl

theorem FloatAccount.tear_nv (f : FloatAccount) (n : Nat) :
    (f.tear n).nv = f.nv ∨ ∃ w rest, f.writes = w :: rest ∧ (f.tear n).nv = w.record := by
  unfold FloatAccount.tear
  split
  · exact .inl rfl
  · next w rest hw =>
    split
    · exact .inr ⟨w, rest, hw, rfl⟩
    · exact .inl rfl

theorem Tariff.tear_schedule (t : Tariff) (n i : Nat) : (t.tear n).schedule i = t.schedule i ∨
    ∃ b number, t.write = some (b, number) ∧ Fin.ofNat 8 b.schedule = Fin.ofNat 8 i ∧
      (t.tear n).schedule i = Schedule.ofBody b number false := by
  unfold Tariff.tear
  split
  · exact .inl rfl
  · next b number hw =>
    split
    · by_cases hi : Fin.ofNat 8 b.schedule = Fin.ofNat 8 i
      · refine .inr ⟨b, number, hw, hi, ?_⟩
        simp only [Tariff.schedule, ← hi]
        exact Vector.getElem_set_self _
      · exact .inl (Vector.getElem_set_ne (Fin.ofNat 8 b.schedule).isLt (Fin.ofNat 8 i).isLt (fun h => hi (Fin.ext h)))
    · exact .inl rfl

theorem Former.tear_entry (f : Former) (n i : Nat) : (f.tear n).entry i = f.entry i ∨
    ∃ w, f.keyWrite = some w ∧ KeyWrite.group w = Fin.ofNat 4 i ∧ (f.tear n).entry i = w.made (f.entry i) := by
  have made : ∀ (g : Fin 4) (e : KeyEntry), ({ f with keys := f.keys.set g e } : Former).entry i =
      if g = Fin.ofNat 4 i then e else f.entry i := by
    intro g e
    split
    · next h =>
      simp only [Former.entry, ← h]
      exact Vector.getElem_set_self _
    · next h => exact Vector.getElem_set_ne g.isLt (Fin.ofNat 4 i).isLt (fun hv => h (Fin.ext hv))
  unfold Former.tear
  split
  · exact .inl rfl
  · next w hw =>
    split
    · by_cases hg : KeyWrite.group w = Fin.ofNat 4 i
      · refine .inr ⟨w, hw, hg, ?_⟩
        cases w <;> exact (made _ _).trans ((if_pos hg).trans (by simp only [KeyWrite.made, Former.entry, ← hg]; rfl))
      · refine .inl ?_
        cases w <;> exact (made _ _).trans (if_neg hg)
    · exact .inl rfl

theorem Clock.tear_settings (c : Clock) (n : Nat) :
    (c.tear n).settingsMonth = c.settingsMonth ∧ (c.tear n).settingsApplied = c.settingsApplied ∨
      ∃ w, c.settingsWrite = some w ∧ (c.tear n).settingsMonth = w.month ∧ (c.tear n).settingsApplied = w.number := by
  unfold Clock.tear
  split
  · exact .inl ⟨rfl, rfl⟩
  · next w hw =>
    split
    · exact .inr ⟨w, hw, rfl, rfl⟩
    · exact .inl ⟨rfl, rfl⟩

/-- A settings write cut short leaves the clock. -/
theorem Clock.tear_running (c : Clock) (n : Nat) : (c.tear n).state = c.state ∧ (c.tear n).seconds = c.seconds ∧
    (c.tear n).month = c.month ∧ (c.tear n).taken = c.taken := by
  unfold Clock.tear
  split
  · exact ⟨rfl, rfl, rfl, rfl⟩
  · split <;> exact ⟨rfl, rfl, rfl, rfl⟩

/-! ### What a reset sets -/

theorem Former.entry_map (keys : Vector KeyEntry 4) (f : KeyEntry → KeyEntry) (g : Nat) :
    (⟨none, keys.map f, none⟩ : Former).entry g = f keys[Fin.ofNat 4 g] := Vector.getElem_map _ _

theorem Tariff.schedule_map (schedules : Vector Schedule 8) (f : Schedule → Schedule) (n : Nat) :
    (⟨schedules.map f, none⟩ : Tariff).schedule n = f schedules[Fin.ofNat 8 n] := Vector.getElem_map _ _

/-- The state after a reset of every volatile value, with the watch as the reset leaves it. -/
def State.resetTo (s : State) (straps : Fin 4) (clock : Clock) (watch : Watch) : State :=
  { s.volatileReset straps clock with watch := watch }

theorem State.resetTo_volatile (s : State) (straps : Fin 4) {clock : Clock} {watch : Watch}
    (hpart : watch.part = .starting) (hscan : watch.scan = ⟨.notBegun, 0, 0⟩)
    (hchannels : clock.channels = Vector.replicate 8 none) (hsettings : clock.settingsWrite = none) :
    (s.resetTo straps clock watch).VolatileAtReset := by
  have hbuffers : ∀ k : SlotNo, (s.resetTo straps clock watch).port.buffers[k] = [] := fun k => Vector.getElem_replicate _
  have hkeys : ∀ g, ((s.resetTo straps clock watch).former.entry g).loading = false := fun g =>
    congrArg KeyEntry.loading (Former.entry_map s.former.keys (fun e => { e with loading := false }) g)
  have hschedules : ∀ n, ((s.resetTo straps clock watch).tariff.schedule n).loading = false := fun n =>
    congrArg Schedule.loading (Tariff.schedule_map s.tariff.schedules (fun x => { x with loading := false }) n)
  have hlocks : ∀ c ∈ (s.resetTo straps clock watch).meters.cells, c.lock = none := by
    intro c hc
    obtain ⟨x, -, rfl⟩ := List.mem_map.mp hc
    rfl
  have hclear : ∀ k : SlotNo, (s.resetTo straps clock watch).clock.channels[k] = none := by
    intro k
    have hc : (s.resetTo straps clock watch).clock.channels = Vector.replicate 8 none := hchannels
    rw [hc]
    exact Vector.getElem_replicate _
  exact ⟨hpart, hscan, rfl, hbuffers, rfl, rfl, rfl, rfl, rfl, rfl, hkeys, rfl, hschedules, rfl, hlocks, rfl, rfl, rfl,
    rfl, rfl, rfl, rfl, rfl, rfl, rfl, rfl, hclear, hsettings⟩

theorem State.keepsRecords_resetTo (s : State) (straps : Fin 4) {clock : Clock} (watch : Watch)
    (hmonth : clock.settingsMonth = s.clock.settingsMonth) (happlied : clock.settingsApplied = s.clock.settingsApplied) :
    s.KeepsRecords (s.resetTo straps clock watch) := by
  have hcells : (s.resetTo straps clock watch).meters.cells.map (·.record) = s.meters.cells.map (·.record) :=
    List.map_map
  exact ⟨s.journal.keepsStore_refl.congr rfl rfl, .inl rfl, .inl hcells, .inl rfl,
    fun n => .inl (Tariff.schedule_map s.tariff.schedules (fun x => { x with loading := false }) n),
    fun g => .inl (Former.entry_map s.former.keys (fun e => { e with loading := false }) g), .inl ⟨hmonth, happlied⟩⟩

/-- A reset that cuts the work under way short keeps every record, made whole or not made (R135, R167, R171). -/
theorem State.keepsRecords_tearDown (s : State) (straps : Fin 4) {clock : Clock} (watch : Watch)
    (hmonth : clock.settingsMonth = (s.clock.tear (s.free + 6)).settingsMonth)
    (happlied : clock.settingsApplied = (s.clock.tear (s.free + 6)).settingsApplied) :
    s.KeepsRecords (s.tearDown.resetTo straps clock watch) := by
  obtain ⟨hstore, hworn⟩ := (s.journal.tearOp s.free).tearHeader_store (s.free + 1)
  obtain ⟨hmark, hheader⟩ := s.journal.tearOp_header s.free
  have hcells : (s.tearDown.resetTo straps clock watch).meters.cells.map (·.record) =
      (s.meters.tear (s.free + 2)).cells.map (·.record) := List.map_map
  refine ⟨(s.journal.keepsStore_tearOp s.free).congr hstore hworn, ?_, ?_, s.float.tear_nv (s.free + 3), fun n => ?_,
    fun g => ?_, ?_⟩
  · have htorn := (s.journal.tearOp s.free).tearHeader_mark (s.free + 1)
    rw [hmark, hheader] at htorn
    exact htorn
  · rw [hcells]
    rcases s.meters.tear_cells (s.free + 2) with h | ⟨w, rest, hw, h⟩
    · exact .inl (by rw [h])
    · exact .inr ⟨w, rest, hw, by rw [h]⟩
  · have hmap := Tariff.schedule_map s.tearDown.tariff.schedules (fun x => { x with loading := false }) n
    rcases s.tariff.tear_schedule (s.free + 4) n with h | ⟨b, number, hw, hi, h⟩
    · exact .inl (hmap.trans (congrArg (fun x : Schedule => { x with loading := false }) h))
    · exact .inr ⟨b, number, hw, hi, hmap.trans (congrArg (fun x : Schedule => { x with loading := false }) h)⟩
  · have hmap := Former.entry_map s.tearDown.former.keys (fun e => { e with loading := false }) g
    rcases s.former.tear_entry (s.free + 5) g with h | ⟨w, hw, hg, h⟩
    · exact .inl (hmap.trans (congrArg (fun e : KeyEntry => { e with loading := false }) h))
    · exact .inr ⟨w, hw, hg, hmap.trans (congrArg (fun e : KeyEntry => { e with loading := false }) h)⟩
  · rcases s.clock.tear_settings (s.free + 6) with ⟨hm, ha⟩ | ⟨w, hw, hm, ha⟩
    · exact .inl ⟨hmonth.trans hm, happlied.trans ha⟩
    · exact .inr ⟨w, hw, hmonth.trans hm, happlied.trans ha⟩

theorem execWarmReset_of {s : State} (straps : Fin 4) (h : s.watch.supply = true) : execWarmReset straps s =
    .next (s.tearDown.resetTo straps s.tearDown.clock.warmReset
      ⟨.starting, s.watch.warning, true, s.watch.supply, .warm, Scan.fresh⟩) := by
  unfold execWarmReset
  exact congrArg Host.Outcome.next (if_pos h)

theorem execSupplyLoss_of {s : State} (h : s.watch.supply = true) : execSupplyLoss s =
    .next (s.tearDown.resetTo s.port.straps s.tearDown.clock.coldReset
      ⟨.starting, s.watch.warning, s.watch.resetLine, false, s.watch.startKind, Scan.fresh⟩) := by
  unfold execSupplyLoss
  exact congrArg Host.Outcome.next (if_pos h)

theorem execColdStart_of {s : State} (straps : Fin 4) (h : s.watch.supply = false) : execColdStart straps s =
    .next (s.resetTo straps s.clock.coldReset
      ⟨.starting, s.watch.warning, s.watch.resetLine, true, .cold, Scan.fresh⟩) := by
  unfold execColdStart
  exact congrArg Host.Outcome.next (if_neg (by rw [h]; exact Bool.false_ne_true))

/-- Settles O52. -/
theorem resetsClearVolatileState : Obligations.ResetsClearVolatileState := by
  refine ⟨fun straps s h => ⟨_, execWarmReset_of straps h, ?_, ?_, rfl, ?_, s.clock.tear_running (s.free + 6)⟩,
    fun s h => ⟨_, execSupplyLoss_of h, ?_, ?_, rfl, rfl, rfl⟩,
    fun straps s h => ⟨_, execColdStart_of straps h, ?_, ?_, rfl, rfl, rfl, rfl, rfl⟩⟩
  · exact State.resetTo_volatile _ _ rfl rfl rfl rfl
  · exact s.keepsRecords_tearDown _ _ rfl rfl
  · rw [h]
    rfl
  · exact State.resetTo_volatile _ _ rfl rfl rfl rfl
  · exact s.keepsRecords_tearDown _ _ rfl rfl
  · exact State.resetTo_volatile _ _ rfl rfl rfl rfl
  · exact s.keepsRecords_resetTo _ _ rfl rfl

end Sys2Proof.Machine
end

section
/-! PROOFS. FAILED mode: what the end of every promise leaves of each slot, and of the claims the slots had made
(R28, R31, R126, R149). -/

namespace Sys2Proof.Machine

/-! ### What the end of promises changes -/

/-- What the end of promises can do to a slot record: work and marks are kept or gone, an idle slot stays idle. -/
structure Slot.Falls (x y : Slot) : Prop where
  pending : y.pendingChange = x.pendingChange ∨ y.pendingChange = none
  vend    : y.vend = x.vend ∨ y.vend = none
  admin   : y.admin = x.admin ∨ y.admin = none
  idle    : x.state = .idle → y.state = .idle

theorem Slot.Falls.refl (x : Slot) : x.Falls x := ⟨.inl rfl, .inl rfl, .inl rfl, id⟩

theorem Slot.Falls.trans {x y z : Slot} (h : x.Falls y) (g : y.Falls z) : x.Falls z where
  pending := g.pending.elim (fun e => h.pending.imp e.trans e.trans) .inr
  vend := g.vend.elim (fun e => h.vend.imp e.trans e.trans) .inr
  admin := g.admin.elim (fun e => h.admin.imp e.trans e.trans) .inr
  idle := g.idle ∘ h.idle

/-- What the end of promises in FAILED mode can change: claims are kept or given back, and nothing else of the blocks. -/
structure FailFrame (s t : State) : Prop where
  journal      : t.journal = { s.journal with reserved := t.journal.reserved }
  fixed        : t.engine = s.engine ∧ t.port = s.port ∧ t.watch = s.watch ∧ t.float.work = s.float.work ∧
    t.float.nv = s.float.nv ∧ t.clock = { s.clock with channels := t.clock.channels }
  reservations : ∀ r ∈ t.float.reservations, r ∈ s.float.reservations
  locks        : ∀ c ∈ t.meters.cells, ∃ c' ∈ s.meters.cells, c.record = c'.record ∧ (c'.lock = none → c.lock = none)
  channels     : ∀ k : SlotNo, s.clock.channels[k] = none → t.clock.channels[k] = none
  keys         : ∀ g, (t.former.entry g).current = (s.former.entry g).current ∧
    ((s.former.entry g).loading = false → (t.former.entry g).loading = false)
  schedules    : ∀ n, (s.tariff.schedule n).loading = false → (t.tariff.schedule n).loading = false
  slots        : ∀ j, (s.slot j).Falls (t.slot j)

theorem FailFrame.refl (s : State) : FailFrame s s :=
  ⟨rfl, ⟨rfl, rfl, rfl, rfl, rfl, rfl⟩, fun _ h => h, fun c h => ⟨c, h, rfl, id⟩, fun _ h => h, fun _ => ⟨rfl, id⟩,
    fun _ h => h, fun j => Slot.Falls.refl (s.slot j)⟩

theorem FailFrame.trans {s t u : State} (h : FailFrame s t) (g : FailFrame t u) : FailFrame s u where
  journal := g.journal.trans (by rw [h.journal])
  fixed := by
    obtain ⟨a1, a2, a3, a4, a5, a6⟩ := h.fixed
    obtain ⟨b1, b2, b3, b4, b5, b6⟩ := g.fixed
    exact ⟨b1.trans a1, b2.trans a2, b3.trans a3, b4.trans a4, b5.trans a5, b6.trans (by rw [a6])⟩
  reservations := fun r hr => h.reservations r (g.reservations r hr)
  locks := fun c hc => by
    obtain ⟨c', hc', hrec, hlock⟩ := g.locks c hc
    obtain ⟨c'', hc'', hrec', hlock'⟩ := h.locks c' hc'
    exact ⟨c'', hc'', hrec.trans hrec', hlock ∘ hlock'⟩
  channels := fun k hk => g.channels k (h.channels k hk)
  keys := fun i => ⟨(g.keys i).1.trans (h.keys i).1, (g.keys i).2 ∘ (h.keys i).2⟩
  schedules := fun n hn => g.schedules n (h.schedules n hn)
  slots := fun j => (h.slots j).trans (g.slots j)

theorem FailFrame.mode {s t : State} (h : FailFrame s t) : t.journal.mode = s.journal.mode := by rw [h.journal]

theorem FailFrame.applying {s t : State} (h : FailFrame s t) (k : SlotNo) : t.engine.applying k = s.engine.applying k := by
  rw [h.fixed.1]

theorem FailFrame.lateBody {s t : State} (h : FailFrame s t) (a : AdminOp) : t.lateBody a = s.lateBody a := by
  obtain ⟨-, -, -, hwork, -, hclock⟩ := h.fixed
  have hrev : ∀ g, t.revisionByteOf g = s.revisionByteOf g := fun g => by
    unfold State.revisionByteOf
    rw [(h.keys g).1]
  have hbytes : t.clock.bytes = s.clock.bytes := by rw [hclock]; rfl
  unfold State.lateBody
  cases a.entry with
  | none => rfl
  | some b =>
    cases b with
    | keyLoad g r => exact hrev g
    | grant n a c x => exact congrArg (fun r : FloatRecord => beBytes 4 r.lastGrant) hwork
    | clockSet o n m => exact hbytes
    | _ => rfl

section
variable (s : State)

theorem failFrame_modSlot (k : SlotNo) {f : Slot → Slot} (h : (s.slot k).Falls (f (s.slot k))) :
    FailFrame s (s.modSlot k f) := by
  refine ⟨rfl, ⟨rfl, rfl, rfl, rfl, rfl, rfl⟩, fun _ h => h, fun c h => ⟨c, h, rfl, id⟩, fun _ h => h, fun _ => ⟨rfl, id⟩,
    fun _ h => h, fun j => ?_⟩
  by_cases hj : j = k
  · rw [hj, State.modSlot_slot_same]
    exact h
  · rw [State.modSlot_slot_other s f hj]
    exact Slot.Falls.refl _

theorem failFrame_respond (k : SlotNo) (res : Result) (r : Option Reason) (body : List Byte) :
    FailFrame s (s.respond k res r body) :=
  failFrame_modSlot s k (f := fun sl => { sl with held := some _ }) ⟨.inl rfl, .inl rfl, .inl rfl, id⟩

theorem failFrame_returnShare (n : Nat) : FailFrame s (s.returnShare n) :=
  ⟨rfl, ⟨rfl, rfl, rfl, rfl, rfl, rfl⟩, fun _ h => h, fun c h => ⟨c, h, rfl, id⟩, fun _ h => h, fun _ => ⟨rfl, id⟩,
    fun _ h => h, fun j => Slot.Falls.refl (s.slot j)⟩

theorem failFrame_releaseReservation (k : SlotNo) : FailFrame s (s.releaseReservation k) :=
  ⟨rfl, ⟨rfl, rfl, rfl, rfl, rfl, rfl⟩, fun _ h => (List.mem_filter.mp h).1, fun c h => ⟨c, h, rfl, id⟩, fun _ h => h,
    fun _ => ⟨rfl, id⟩, fun _ h => h, fun j => Slot.Falls.refl (s.slot j)⟩

theorem failFrame_setLock (m : Nat) : FailFrame s (s.setLock m none) := by
  refine ⟨rfl, ⟨rfl, rfl, rfl, rfl, rfl, rfl⟩, fun _ h => h, fun c h => ?_, fun _ h => h, fun _ => ⟨rfl, id⟩, fun _ h => h,
    fun j => Slot.Falls.refl (s.slot j)⟩
  obtain ⟨c', hc', rfl⟩ := List.mem_map.mp h
  refine ⟨c', hc', ?_, fun hlock => ?_⟩
  · split <;> rfl
  · split
    · rfl
    · exact hlock

theorem failFrame_setChannel (k : SlotNo) : FailFrame s (s.setChannel k none) := by
  refine ⟨rfl, ⟨rfl, rfl, rfl, rfl, rfl, rfl⟩, fun _ h => h, fun c h => ⟨c, h, rfl, id⟩, fun j h => ?_, fun _ => ⟨rfl, id⟩,
    fun _ h => h, fun j => Slot.Falls.refl (s.slot j)⟩
  by_cases hj : j = k
  · rw [hj]
    exact s.clock.setChannel_same k none
  · exact (s.clock.setChannel_other none hj).trans h

theorem failFrame_modKey (g : Nat) : FailFrame s (s.modKey g (fun x => { x with loading := false })) := by
  refine ⟨rfl, ⟨rfl, rfl, rfl, rfl, rfl, rfl⟩, fun _ h => h, fun c h => ⟨c, h, rfl, id⟩, fun _ h => h, fun i => ?_,
    fun _ h => h, fun j => Slot.Falls.refl (s.slot j)⟩
  by_cases hi : Fin.ofNat 4 g = Fin.ofNat 4 i
  · have hentry : (s.modKey g (fun x => { x with loading := false })).former.entry i =
        { s.former.entry i with loading := false } := by
      simp only [Former.entry, State.modKey, hi]
      exact Vector.getElem_set_self _
    rw [hentry]
    exact ⟨rfl, fun _ => rfl⟩
  · have hentry : (s.modKey g (fun x => { x with loading := false })).former.entry i = s.former.entry i :=
      Vector.getElem_set_ne (Fin.ofNat 4 g).isLt (Fin.ofNat 4 i).isLt (fun h => hi (Fin.ext h))
    rw [hentry]
    exact ⟨rfl, id⟩

theorem failFrame_modSchedule (n : Nat) : FailFrame s (s.modSchedule n (fun x => { x with loading := false })) := by
  refine ⟨rfl, ⟨rfl, rfl, rfl, rfl, rfl, rfl⟩, fun _ h => h, fun c h => ⟨c, h, rfl, id⟩, fun _ h => h, fun _ => ⟨rfl, id⟩,
    fun i h => ?_, fun j => Slot.Falls.refl (s.slot j)⟩
  by_cases hi : Fin.ofNat 8 n = Fin.ofNat 8 i
  · have hentry : (s.modSchedule n (fun x => { x with loading := false })).tariff.schedule i =
        { s.tariff.schedule i with loading := false } := by
      simp only [Tariff.schedule, State.modSchedule, hi]
      exact Vector.getElem_set_self _
    rw [hentry]
  · have hentry : (s.modSchedule n (fun x => { x with loading := false })).tariff.schedule i = s.tariff.schedule i :=
      Vector.getElem_set_ne (Fin.ofNat 8 n).isLt (Fin.ofNat 8 i).isLt (fun h => hi (Fin.ext h))
    rw [hentry]
    exact h

theorem failFrame_releaseTarget (t : SlotNo) : FailFrame s (s.releaseTarget t) := by
  refine failFrame_modSlot s t ?_
  dsimp only
  split
  · exact ⟨.inr rfl, .inl rfl, .inl rfl, fun _ => rfl⟩
  · exact ⟨.inr rfl, .inl rfl, .inl rfl, id⟩

theorem failFrame_releaseClaims (b : EntryBody) : FailFrame s (s.releaseClaims b) := by
  cases b with
  | tariffLoad b => exact failFrame_modSchedule s b.schedule
  | keyLoad g _ => exact failFrame_modKey s g
  | retire m => exact failFrame_setLock s m
  | meterUpdate m _ => exact failFrame_setLock s m
  | meterHold m _ => exact failFrame_setLock s m
  | bind e =>
    exact failFrame_modSlot s e.target (f := fun sl => { sl with pendingChange := none })
      ⟨.inr rfl, .inl rfl, .inl rfl, id⟩
  | unbind t => exact failFrame_releaseTarget s t
  | vendOpen | token | vendEnd | grant | enrol | clockSet | shiftClose | start => exact FailFrame.refl s
  -- RECALL is left.
  | _ => exact failFrame_releaseReservation s 0

end

/-! ### The chain of unbinds -/

/-- Slot k's work ends in FAILED mode and with it the UNBIND of slot j that waited for it (R149). -/
def State.faultUnbind (s : State) (k j : SlotNo) : State :=
  (((s.modSlot k (fun sl => { sl with state := .idle, inHand := none, pendingChange := none })).respond j .refused
    (some .storeFault) []).modSlot j (fun sl => { sl with admin := none })).returnShare 1

section
variable {s : State} {k j : SlotNo}

theorem State.finishWork_unbind (fuel : Nat) (h : (s.slot k).pendingChange = some (.unbindBy j))
    (hmode : s.journal.mode = .failed) : s.finishWork (fuel + 1) k = (s.faultUnbind k j).finishWork fuel j := by
  rw [State.finishWork, h]
  dsimp only
  rw [hmode]
  rfl

theorem State.finishWork_settled (fuel : Nat) (h : ∀ j, (s.slot k).pendingChange ≠ some (.unbindBy j)) :
    s.finishWork (fuel + 1) k = s.modSlot k (fun sl => { sl with state := .idle, inHand := none }) := by
  rw [State.finishWork]
  split
  · next j hj => exact absurd hj (h j)
  · rfl
  · rfl

theorem failFrame_faultUnbind (s : State) (k j : SlotNo) : FailFrame s (s.faultUnbind k j) :=
  ((failFrame_modSlot s k (f := fun sl => { sl with state := .idle, inHand := none, pendingChange := none })
    ⟨.inr rfl, .inl rfl, .inl rfl, fun _ => rfl⟩).trans (failFrame_respond _ j _ _ _)).trans
      ((failFrame_modSlot _ j (f := fun sl => { sl with admin := none }) ⟨.inl rfl, .inl rfl, .inr rfl, id⟩).trans
        (failFrame_returnShare _ 1))

theorem failFrame_finishWork (fuel : Nat) {s : State} (hmode : s.journal.mode = .failed) (k : SlotNo) :
    FailFrame s (s.finishWork fuel k) := by
  induction fuel generalizing s k with
  | zero => exact FailFrame.refl s
  | succ fuel ih =>
    by_cases h : ∃ j, (s.slot k).pendingChange = some (.unbindBy j)
    · obtain ⟨j, hj⟩ := h
      rw [State.finishWork_unbind fuel hj hmode]
      exact (failFrame_faultUnbind s k j).trans (ih (s := s.faultUnbind k j) hmode j)
    · rw [State.finishWork_settled fuel (fun j hj => h ⟨j, hj⟩)]
      exact failFrame_modSlot s k (f := fun sl => { sl with state := .idle, inHand := none })
        ⟨.inl rfl, .inl rfl, .inl rfl, fun _ => rfl⟩

theorem State.returnShare_slot (s : State) (n : Nat) (j : SlotNo) : (s.returnShare n).slot j = s.slot j := rfl

theorem State.respond_slot_other (s : State) {i j : SlotNo} (h : i ≠ j) (res : Result) (r : Option Reason)
    (body : List Byte) : (s.respond j res r body).slot i = s.slot i := State.modSlot_slot_other _ _ h

theorem State.respond_slot_same (s : State) (j : SlotNo) (res : Result) (r : Option Reason) (body : List Byte) :
    (s.respond j res r body).slot j = { s.slot j with held := some (responseFrame
      ((s.slot j).inHand.getD (0, 0)).1 ((s.slot j).inHand.getD (0, 0)).2 res r body) } :=
  State.modSlot_slot_same _ _ _

theorem State.faultUnbind_slot_self (h : k ≠ j) : (s.faultUnbind k j).slot k =
    { s.slot k with state := .idle, inHand := none, pendingChange := none } := by
  rw [State.faultUnbind, State.returnShare_slot, State.modSlot_slot_other _ _ h, State.respond_slot_other _ h,
    State.modSlot_slot_same]

/-- The record of a slot whose UNBIND is refused by a store fault while it waits or queues (R149). -/
def Slot.unbindFault (sl : Slot) : Slot := { sl with
  admin := none
  held := some (responseFrame (sl.inHand.getD (0, 0)).1 (sl.inHand.getD (0, 0)).2 .refused (some .storeFault) []) }

theorem State.faultUnbind_slot_waiting (h : j ≠ k) : (s.faultUnbind k j).slot j = (s.slot j).unbindFault := by
  rw [State.faultUnbind, State.returnShare_slot, State.modSlot_slot_same, State.respond_slot_same,
    State.modSlot_slot_other _ _ h]
  rfl

theorem State.faultUnbind_slot_other {i : SlotNo} (hk : i ≠ k) (hj : i ≠ j) : (s.faultUnbind k j).slot i = s.slot i := by
  rw [State.faultUnbind, State.returnShare_slot, State.modSlot_slot_other _ _ hj, State.respond_slot_other _ hj,
    State.modSlot_slot_other _ _ hk]

theorem State.faultUnbind_pending (s : State) (k j : SlotNo) : ((s.faultUnbind k j).slot k).pendingChange = none := by
  by_cases h : k = j
  · rw [h, State.faultUnbind, State.returnShare_slot, State.modSlot_slot_same, State.respond_slot_same,
      State.modSlot_slot_same]
  · rw [State.faultUnbind_slot_self h]

/-- The slots but k whose work is waited for by an UNBIND. -/
def State.waitedFor (s : State) (k : SlotNo) : Finset SlotNo :=
  Finset.univ.filter (fun m => m ≠ k ∧ ∃ i, (s.slot m).pendingChange = some (.unbindBy i))

theorem State.mem_waitedFor {m : SlotNo} :
    m ∈ s.waitedFor k ↔ m ≠ k ∧ ∃ i, (s.slot m).pendingChange = some (.unbindBy i) := by simp [State.waitedFor]

theorem State.card_waitedFor (s : State) (k : SlotNo) : (s.waitedFor k).card < 8 := by
  have hsub : s.waitedFor k ⊂ Finset.univ :=
    ⟨Finset.subset_univ _, fun h => (State.mem_waitedFor.mp (h (Finset.mem_univ k))).1 rfl⟩
  simpa using Finset.card_lt_card hsub

/-- Each unbind of the chain leaves one slot less that is waited for. -/
theorem State.waitedFor_faultUnbind {i m : SlotNo} (hmk : m ≠ k) (h : (s.slot m).pendingChange = some (.unbindBy i)) :
    ((s.faultUnbind m i).waitedFor k).card < (s.waitedFor k).card := by
  refine Finset.card_lt_card ⟨fun x hx => ?_, fun hsub => ?_⟩
  · obtain ⟨hxk, l, hl⟩ := State.mem_waitedFor.mp hx
    refine State.mem_waitedFor.mpr ⟨hxk, l, ?_⟩
    rcases ((failFrame_faultUnbind s m i).slots x).pending with hp | hp
    · exact hp.symm.trans hl
    · cases hp.symm.trans hl
  · obtain ⟨-, l, hl⟩ := State.mem_waitedFor.mp (hsub (State.mem_waitedFor.mpr ⟨hmk, i, h⟩))
    cases (s.faultUnbind_pending m i).symm.trans hl

/-- What a chain of unbinds that begins at another slot can do to slot k: nothing, or refuse its own UNBIND of a slot m,
which is then pending no more and IDLE. -/
def State.ChainReached (s t : State) (k : SlotNo) : Prop :=
  ∃ m, m ≠ k ∧ (s.slot m).pendingChange = some (.unbindBy k) ∧ (t.slot m).pendingChange = none ∧
    (t.slot m).state = .idle ∧ ((s.slot k).pendingChange = none →
      t.slot k = { (s.slot k).unbindFault with state := .idle, inHand := none })

theorem State.finishWork_slot (fuel : Nat) {s : State} {j k : SlotNo} (hmode : s.journal.mode = .failed) (hj : j ≠ k)
    (hfuel : (s.waitedFor k).card < fuel) :
    (s.finishWork fuel j).slot k = s.slot k ∨ s.ChainReached (s.finishWork fuel j) k := by
  induction fuel generalizing s j with
  | zero => omega
  | succ fuel ih =>
    by_cases h : ∃ i, (s.slot j).pendingChange = some (.unbindBy i)
    · obtain ⟨i, hi⟩ := h
      have hless := State.waitedFor_faultUnbind hj hi
      have hframe := failFrame_faultUnbind s j i
      rw [State.finishWork_unbind fuel hi hmode]
      by_cases hik : i = k
      · subst hik
        have hfinish := failFrame_finishWork fuel (s := s.faultUnbind j i) hmode i
        have hjslot := State.faultUnbind_slot_self (s := s) hj
        refine .inr ⟨j, hj, hi, ?_, (hfinish.slots j).idle (by rw [hjslot]), fun hfree => ?_⟩
        · rcases (hfinish.slots j).pending with hp | hp
          · rw [hp, hjslot]
          · exact hp
        · obtain ⟨fuel, rfl⟩ : ∃ f, fuel = f + 1 := ⟨fuel - 1, by omega⟩
          have hwait := State.faultUnbind_slot_waiting (s := s) hj.symm
          rw [State.finishWork_settled fuel (fun i hi => by rw [hwait] at hi; cases hi.symm.trans hfree),
            State.modSlot_slot_same, hwait]
      · have hslot : (s.faultUnbind j i).slot k = s.slot k :=
          State.faultUnbind_slot_other (Ne.symm hj) (fun h => hik h.symm)
        rcases ih (s := s.faultUnbind j i) hmode hik (by omega) with hsame | ⟨m, hmk, hm, hp, hst, hk⟩
        · exact .inl (hsame.trans hslot)
        · refine .inr ⟨m, hmk, ?_, hp, hst, fun hfree => ?_⟩
          · rcases (hframe.slots m).pending with hp' | hp'
            · exact hp'.symm.trans hm
            · cases hp'.symm.trans hm
          · rw [hk (by rw [hslot]; exact hfree), hslot]
    · rw [State.finishWork_settled fuel (fun i hi => h ⟨i, hi⟩)]
      exact .inl (State.modSlot_slot_other _ _ hj.symm)

theorem State.endWork_slot {s : State} {j k : SlotNo} (hmode : s.journal.mode = .failed) (hj : j ≠ k) :
    (s.endWork j).slot k = s.slot k ∨ s.ChainReached (s.endWork j) k :=
  State.finishWork_slot 8 hmode hj (s.card_waitedFor k)

end

end Sys2Proof.Machine
end

section
/-! PROOFS. The entry into FAILED mode, slot by slot (R28, R31, R40, R63, R85, R103, R126, R145, R149). -/

namespace Sys2Proof.Machine

/-! ### One slot -/

/-- A slot that a release of an unbind on it leaves alone: it has work, or is idle with no request in hand. -/
def Slot.Steady (x : Slot) : Prop := x.vend ≠ none ∨ x.admin ≠ none ∨ x.state = .idle ∧ x.inHand = none

section
variable {s : State} {j k : SlotNo}

theorem State.releaseClaims_slot (b : EntryBody) (h : (s.slot k).Steady) :
    (s.releaseClaims b).slot k = s.slot k ∨ (s.releaseClaims b).slot k = { s.slot k with pendingChange := none } := by
  cases b with
  | bind e =>
    by_cases ht : k = e.target
    · subst ht
      exact .inr (State.modSlot_slot_same s e.target _)
    · exact .inl (State.modSlot_slot_other s _ ht)
  | unbind t =>
    by_cases ht : k = t
    · subst ht
      refine .inr ((State.modSlot_slot_same s k _).trans ?_)
      dsimp only
      split
      · next hnone =>
        obtain ⟨hv, ha⟩ := hnone
        rcases h with h | h | ⟨hst, hhand⟩
        · exact absurd (Option.isNone_iff_eq_none.mp hv) h
        · exact absurd (Option.isNone_iff_eq_none.mp ha) h
        · rw [← hst, ← hhand]
      · rfl
    · exact .inl (State.modSlot_slot_other s _ ht)
  | _ => exact .inl rfl

/-- What the end of a slot's promise does before its work ends: it keeps the records of the other slots, but for a mark. -/
theorem State.failSlot_cases (s : State) (j : SlotNo) : s.failSlot j = s ∨
    ∃ w, s.failSlot j = w.endWork j ∧ FailFrame s w ∧ ∀ k, k ≠ j → (s.slot k).Steady →
      (w.slot k = s.slot k ∨ w.slot k = { s.slot k with pendingChange := none }) := by
  have claims : ∀ v : Vend, FailFrame s (((s.returnShare v.share).releaseReservation j).setLock v.meter none) := fun v =>
    ((failFrame_returnShare s _).trans (failFrame_releaseReservation _ j)).trans (failFrame_setLock _ v.meter)
  have removed : ∀ (u : State) (l : LastEnding), FailFrame u (u.removeVend j l) := fun u l =>
    failFrame_modSlot u j (f := fun sl => { sl with vend := none, lastEnding := some l }) ⟨.inl rfl, .inr rfl, .inl rfl, id⟩
  have kept : ∀ (u : State) (f : Slot → Slot) (k : SlotNo), k ≠ j → (u.modSlot j f).slot k = u.slot k := fun u f k hk =>
    State.modSlot_slot_other u f hk
  have refused : ∀ a : AdminOp, ∃ w, s.refuseAdmin j a .storeFault = w.endWork j ∧ FailFrame s w ∧
      ∀ k, k ≠ j → (s.slot k).Steady → (w.slot k = s.slot k ∨ w.slot k = { s.slot k with pendingChange := none }) := by
    intro a
    have hbase := ((failFrame_respond s j .refused (some .storeFault) (s.lateBody a)).trans
      (failFrame_modSlot _ j (f := fun sl => { sl with admin := none }) ⟨.inl rfl, .inl rfl, .inr rfl, id⟩)).trans
        (failFrame_returnShare _ 1)
    have hslot : ∀ k, k ≠ j → (((s.respond j .refused (some .storeFault) (s.lateBody a)).modSlot j
        (fun sl => { sl with admin := none })).returnShare 1).slot k = s.slot k := fun k hk => by
      rw [State.returnShare_slot, kept _ _ k hk, State.respond_slot_other _ hk]
    cases hentry : a.entry with
    | none =>
      refine ⟨_, ?_, hbase, fun k hk _ => .inl (hslot k hk)⟩
      rw [State.refuseAdmin, hentry]
      rfl
    | some b =>
      refine ⟨_, ?_, hbase.trans (failFrame_releaseClaims _ b), fun k hk hsteady => ?_⟩
      · rw [State.refuseAdmin, hentry]
        rfl
      · have := State.releaseClaims_slot (s := ((s.respond j .refused (some .storeFault) (s.lateBody a)).modSlot j
          (fun sl => { sl with admin := none })).returnShare 1) (k := k) b (by rw [hslot k hk]; exact hsteady)
        rw [hslot k hk] at this
        exact this
  unfold State.failSlot
  split
  · next v hv =>
    split
    · exact .inl rfl
    · split
      · refine .inr ⟨_, rfl, ((claims v).trans (failFrame_respond _ j _ _ _)).trans (removed _ _), fun k hk _ => .inl ?_⟩
        exact (kept _ _ k hk).trans (State.respond_slot_other _ hk _ _ _)
      · refine .inr ⟨_, rfl, ((((claims v).trans (failFrame_respond _ j _ _ _)).trans (failFrame_setChannel _ j)).trans
          (failFrame_modSlot _ j (f := fun sl => { sl with
            till := sl.till.add v.plan.tender v.plan.change v.undelivered }) ⟨.inl rfl, .inl rfl, .inl rfl, id⟩)).trans
              (removed _ _), fun k hk _ => .inl ?_⟩
        exact (kept _ _ k hk).trans ((kept _ _ k hk).trans (State.respond_slot_other _ hk _ _ _))
  · split
    · exact .inl rfl
    · next a ha =>
      split
      · exact .inr (refused a)
      · exact .inr (refused a)
      · exact .inl rfl
      · exact .inl rfl
      · exact .inl rfl

theorem failFrame_failSlot {s : State} (hmode : s.journal.mode = .failed) (j : SlotNo) : FailFrame s (s.failSlot j) := by
  rcases s.failSlot_cases j with h | ⟨w, h, hframe, -⟩
  · rw [h]
    exact FailFrame.refl s
  · rw [h]
    exact hframe.trans (failFrame_finishWork 8 (hframe.mode.trans hmode) j)

/-- What the end of another slot's promise does to slot k: a mark on it may go, or its UNBIND is refused with the work
that it waited for (R149). -/
theorem State.failSlot_slot (hmode : s.journal.mode = .failed) (hj : j ≠ k) (hsteady : (s.slot k).Steady) :
    (s.failSlot j).slot k = s.slot k ∨ (s.failSlot j).slot k = { s.slot k with pendingChange := none } ∨
      s.ChainReached (s.failSlot j) k := by
  rcases s.failSlot_cases j with h | ⟨w, h, hframe, hslot⟩
  · exact .inl (by rw [h])
  · rw [h]
    have hw := hslot k hj.symm hsteady
    rcases State.endWork_slot (s := w) (hframe.mode.trans hmode) hj with hsame | ⟨m, hmk, hm, hp, hst, hk⟩
    · rw [hsame]
      exact hw.imp_right .inl
    · refine .inr (.inr ⟨m, hmk, ?_, hp, hst, fun hnone => ?_⟩)
      · rcases (hframe.slots m).pending with he | he
        · exact he.symm.trans hm
        · cases he.symm.trans hm
      · have hwk : w.slot k = s.slot k := hw.elim id (fun he => by rw [he, ← hnone])
        rw [hk (by rw [hwk]; exact hnone), hwk]

/-- A slot that no UNBIND is waited for by is not reached. -/
theorem State.failSlot_slot_free (hmode : s.journal.mode = .failed) (hj : j ≠ k) (hsteady : (s.slot k).Steady)
    (hnone : (s.slot k).pendingChange = none) (hfree : ∀ m : SlotNo, (s.slot m).pendingChange ≠ some (.unbindBy k)) :
    (s.failSlot j).slot k = s.slot k := by
  rcases State.failSlot_slot hmode hj hsteady with h | h | ⟨m, -, hm, -⟩
  · exact h
  · rw [h, ← hnone]
  · exact absurd hm (hfree m)

/-- The end of a slot's promise leaves the vend of every other slot. -/
theorem State.finishWork_vend (fuel : Nat) {s : State} (hmode : s.journal.mode = .failed) (j i : SlotNo) :
    ((s.finishWork fuel j).slot i).vend = (s.slot i).vend := by
  induction fuel generalizing s j with
  | zero => rfl
  | succ fuel ih =>
    by_cases h : ∃ l, (s.slot j).pendingChange = some (.unbindBy l)
    · obtain ⟨l, hl⟩ := h
      rw [State.finishWork_unbind fuel hl hmode, ih (s := s.faultUnbind j l) hmode, State.faultUnbind,
        State.returnShare_slot]
      refine (State.modSlot_field Slot.vend _ l _ rfl i).trans ?_
      refine (State.modSlot_field Slot.vend _ l (fun sl => { sl with held := some _ }) rfl i).trans ?_
      exact State.modSlot_field Slot.vend s j _ rfl i
    · rw [State.finishWork_settled fuel (fun l hl => h ⟨l, hl⟩)]
      exact State.modSlot_field Slot.vend s j _ rfl i

theorem State.failSlot_vend_other (hmode : s.journal.mode = .failed) (hj : j ≠ k) (hv : (s.slot k).vend ≠ none) :
    ((s.failSlot j).slot k).vend = (s.slot k).vend := by
  rcases s.failSlot_cases j with h | ⟨w, h, hframe, hslot⟩
  · rw [h]
  · rw [h]
    refine (State.finishWork_vend 8 (hframe.mode.trans hmode) j k).trans ?_
    rcases hslot k hj.symm (.inl hv) with he | he <;> rw [he]

theorem State.failSlot_applying {v : Vend} (hv : (s.slot k).vend = some v) (h : s.engine.applying k = true) :
    s.failSlot k = s := by
  unfold State.failSlot
  rw [hv]
  exact if_pos h

theorem State.failSlot_vend {v : Vend} (hv : (s.slot k).vend = some v) (h : s.engine.applying k = false) :
    s.failSlot k = if v.number.isNone then s.endRefused k v .storeFault else s.endStoreFault k v := by
  unfold State.failSlot
  rw [hv]
  exact if_neg (by rw [h]; exact Bool.false_ne_true)

theorem State.failSlot_admin {b : EntryBody} {ph : AdminPhase} (hv : (s.slot k).vend = none)
    (ha : (s.slot k).admin = some ⟨some b, ph⟩) (hph : ph = .queued ∨ ∃ w, ph = .staging w) :
    s.failSlot k = s.refuseAdmin k ⟨some b, ph⟩ .storeFault := by
  unfold State.failSlot
  rw [hv, ha]
  obtain rfl | ⟨w, rfl⟩ := hph <;> rfl

theorem State.failSlot_idle (hv : (s.slot k).vend = none) (ha : (s.slot k).admin = none) : s.failSlot k = s := by
  unfold State.failSlot
  rw [hv, ha]

end

/-! ### All slots -/

/-- The state in which the promises of the slots end: the queue dropped, the unit stopped (R126). -/
def State.failStart (s : State) : State := { s with journal := s.journal.fail, engine := s.engine.failUnit }

/-- The promises of every slot have ended. -/
def State.failedSlots (s : State) : State := slotList.foldl State.failSlot s.failStart

theorem Engine.failUnit_applying (e : Engine) (k : SlotNo) : e.failUnit.applying k = e.applying k := by
  unfold Engine.failUnit Engine.applying
  cases hu : e.unit with
  | none => rw [hu]
  | some u =>
    cases hst : u.stage with
    | forming => simp [hst]
    | committing => simp [hst]
    | applying => simp [hu, hst]

theorem failFrame_failedSlots (s : State) : FailFrame s.failStart s.failedSlots := by
  have fold : ∀ (l : List SlotNo) (u : State), u.journal.mode = .failed → FailFrame u (l.foldl State.failSlot u) := by
    intro l
    induction l with
    | nil => exact fun u _ => FailFrame.refl u
    | cons j l ih =>
      intro u hmode
      have hj := failFrame_failSlot hmode j
      exact hj.trans (ih _ (hj.mode.trans hmode))
  exact fold slotList s.failStart rfl

theorem mem_slotList (k : SlotNo) : k ∈ slotList := by
  revert k
  decide

theorem nodup_slotList : slotList.Nodup := by decide

/-- What holds of slot k before its own turn, and what its turn brings about, is kept by the turns of the others. -/
theorem State.failedSlots_induct {s : State} {k : SlotNo} {before after : State → Prop} (hstart : before s.failStart)
    (hbefore : ∀ u j, u.journal.mode = .failed → j ≠ k → before u → before (u.failSlot j))
    (hturn : ∀ u, u.journal.mode = .failed → before u → after (u.failSlot k))
    (hafter : ∀ u j, u.journal.mode = .failed → j ≠ k → after u → after (u.failSlot j)) : after s.failedSlots := by
  have fold : ∀ (P : State → Prop), (∀ u j, u.journal.mode = .failed → j ≠ k → P u → P (u.failSlot j)) →
      ∀ (l : List SlotNo) (u : State), k ∉ l → u.journal.mode = .failed → P u →
        P (l.foldl State.failSlot u) ∧ (l.foldl State.failSlot u).journal.mode = .failed := by
    intro P hP l
    induction l with
    | nil => exact fun u _ hmode hu => ⟨hu, hmode⟩
    | cons j l ih =>
      intro u hk hmode hu
      rw [List.mem_cons, not_or] at hk
      exact ih _ hk.2 ((failFrame_failSlot hmode j).mode.trans hmode) (hP u j hmode (Ne.symm hk.1) hu)
  obtain ⟨l, r, hlist⟩ := List.append_of_mem (mem_slotList k)
  have hnodup : (l ++ k :: r).Nodup := hlist ▸ nodup_slotList
  obtain ⟨hl, hr⟩ : k ∉ l ∧ k ∉ r := by
    have hk := (List.nodup_cons.mp (List.nodup_middle.mp hnodup)).1
    exact ⟨fun h => hk (List.mem_append_left r h), fun h => hk (List.mem_append_right l h)⟩
  obtain ⟨hb, hmode⟩ := fold before hbefore l s.failStart hl rfl hstart
  have hmode' := (failFrame_failSlot hmode k).mode.trans hmode
  rw [State.failedSlots, hlist, List.foldl_append, List.foldl_cons]
  exact (fold after hafter r _ hr hmode' (hturn _ hmode hb)).1

end Sys2Proof.Machine
end

section
/-! PROOFS. The entry into FAILED mode ends every promise (R28, R31, R40, R63, R85, R103, R126, R145, R149). -/

namespace Sys2Proof.Machine

/-! ### After the slots' turns -/

/-- What the entry into FAILED mode does after the slots' turns: the reserved count is 0, and the scan's end or the return
to RUN leaves the records as they are. -/
structure State.SettlesAs (u t : State) : Prop where
  journal      : t.journal = { u.journal with reserved := 0 }
  slots        : t.slots = u.slots
  blocks       : t.former = u.former ∧ t.tariff = u.tariff ∧ t.meters = u.meters ∧ t.port = u.port
  float        : t.float.work = u.float.work ∧ t.float.nv = u.float.nv ∧ t.float.reservations = u.float.reservations
  channels     : ∀ k : SlotNo, k ≠ 0 → t.clock.channels[k] = u.clock.channels[k]

theorem State.returnToRun_eq (s : State) : s.returnToRun = { s with watch := s.returnToRun.watch } := by
  unfold State.returnToRun
  split <;> rfl

theorem State.scanFinish_rest (s : State) :
    s.scanFinish = { s.judge with watch := s.scanFinish.watch } := by
  unfold State.scanFinish
  dsimp only
  split <;> rfl

/-- The last act of the entry into FAILED mode, after the slots' turns (R126, R179). -/
def State.afterTurns (u : State) : State :=
  if (u.setReserved 0).watch.part = .starting then (u.setReserved 0).scanFinish else (u.setReserved 0).returnToRun

theorem State.afterTurns_settles (u : State) : u.SettlesAs u.afterTurns := by
  unfold State.afterTurns
  split
  · rw [State.scanFinish_rest]
    exact ⟨rfl, rfl, ⟨rfl, rfl, rfl, rfl⟩, ⟨rfl, rfl, rfl⟩, fun k hk => Clock.setChannel_other _ _ hk⟩
  · rw [State.returnToRun_eq]
    exact ⟨rfl, rfl, ⟨rfl, rfl, rfl, rfl⟩, ⟨rfl, rfl, rfl⟩, fun k hk => rfl⟩

theorem State.enterFailed_eq (s : State) : s.enterFailed = s.failedSlots.afterTurns := by
  unfold State.enterFailed State.failedSlots State.failStart
  dsimp only
  generalize slotList.foldl State.failSlot _ = u
  rfl

theorem State.enterFailed_settles (s : State) : s.failedSlots.SettlesAs s.enterFailed := by
  rw [State.enterFailed_eq]
  exact s.failedSlots.afterTurns_settles

theorem State.SettlesAs.slot {u t : State} (h : u.SettlesAs t) (k : SlotNo) : t.slot k = u.slot k :=
  State.slot_of_slots_eq h.slots k

theorem State.enterFailed_journal (s : State) : s.enterFailed.journal =
    { s.journal with mode := .failed, queue := [], reserved := 0, op := .idle, failedOnce := false } := by
  rw [s.enterFailed_settles.journal, (failFrame_failedSlots s).journal]
  rfl

/-- A vend whose unit is in APPLYING goes on (R126). -/
theorem State.enterFailed_applying {s : State} {k : SlotNo} {v : Vend} (happlying : s.engine.applying k = true)
    (hv : (s.slot k).vend = some v) : (s.enterFailed.slot k).vend = some v := by
  rw [s.enterFailed_settles.slot]
  have hkept := State.failedSlots_induct (s := s) (k := k)
    (before := fun u => (u.slot k).vend = some v ∧ u.engine.applying k = true) (after := fun u => (u.slot k).vend = some v)
    ⟨hv, (s.engine.failUnit_applying k).trans happlying⟩
    (fun u j hmode hj hu => ⟨(State.failSlot_vend_other hmode hj (by rw [hu.1]; exact Option.some_ne_none v)).trans hu.1,
      ((failFrame_failSlot hmode j).applying k).trans hu.2⟩)
    (fun u _ hu => by rw [State.failSlot_applying hu.1 hu.2]; exact hu.1)
    (fun u j hmode hj hu => (State.failSlot_vend_other hmode hj (by rw [hu]; exact Option.some_ne_none v)).trans hu)
  exact hkept

/-! ### A vend in flight -/

/-- The record of a slot whose vend ends REFUSED STORE_FAULT (R28). -/
def Slot.refusedFault (sl : Slot) (c q : Byte) (v : Vend) : Slot := { sl with
  state := .idle, inHand := none, vend := none
  lastEnding := some ⟨none, .refused, some .storeFault, v.issued, v.undelivered⟩
  held := some (responseFrame c q .refused (some .storeFault) (beBytes 4 v.receipt)) }

/-- What FAILED mode leaves of a vend it has ended: its slot's record, no reservation, a free lock, a clear channel. -/
structure State.VendFaulted (u : State) (k : SlotNo) (sl : Slot) (v : Vend) (c q : Byte) : Prop where
  slot         : u.slot k = if v.number.isNone then sl.refusedFault c q v else sl.storeFaulted c q v
  reservations : ∀ x ∈ u.float.reservations, x.slot ≠ k
  locks        : ∀ x ∈ u.meters.cells, x.record.number = v.meter → x.lock = none
  channel      : v.number.isNone = false → u.clock.channels[k] = none

/-- No work is waited for by an UNBIND of slot k. -/
def State.UnawaitedBy (u : State) (k : SlotNo) : Prop := ∀ m : SlotNo, (u.slot m).pendingChange ≠ some (.unbindBy k)

theorem State.UnawaitedBy.frame {s t : State} {k : SlotNo} (h : s.UnawaitedBy k) (hframe : FailFrame s t) :
    t.UnawaitedBy k := by
  intro m hm
  rcases (hframe.slots m).pending with he | he
  · exact h m (he.symm.trans hm)
  · cases he.symm.trans hm

theorem setLock_cells_free (m : Meters) (n : Nat) :
    ∀ x ∈ (m.setLock n none).cells, x.record.number = n → x.lock = none := by
  intro x hx hn
  obtain ⟨c, -, rfl⟩ := List.mem_map.mp hx
  split
  · rfl
  · next hne =>
    rw [if_neg hne] at hn
    exact absurd hn hne

theorem filter_reservations (rs : List Reservation) (k : SlotNo) : ∀ x ∈ rs.filter (fun r => r.slot != k), x.slot ≠ k :=
  fun x hx => by simpa using (List.mem_filter.mp hx).2

theorem State.failSlot_vendFaulted {u : State} {k : SlotNo} {v : Vend} {c q : Byte} (hv : (u.slot k).vend = some v)
    (happlying : u.engine.applying k = false) (hhand : (u.slot k).inHand = some (c, q))
    (hpending : (u.slot k).pendingChange = none) : (u.failSlot k).VendFaulted k (u.slot k) v c q := by
  by_cases hnum : v.number.isNone = true
  · rw [State.failSlot_vend hv happlying, if_pos hnum, State.endRefused_eq v .storeFault hhand hpending]
    refine ⟨?_, filter_reservations _ k, setLock_cells_free u.meters v.meter, fun h => absurd hnum (by rw [h]; simp)⟩
    rw [if_pos hnum]
    exact Vector.getElem_set_self _
  · rw [State.failSlot_vend hv happlying, if_neg hnum, State.endStoreFault_eq v hhand hpending]
    refine ⟨?_, filter_reservations _ k, setLock_cells_free u.meters v.meter, fun _ => u.clock.setChannel_same k none⟩
    rw [if_neg hnum, State.modSlot_slot_same]
    rfl

theorem State.enterFailed_vendFaulted {s : State} {k : SlotNo} {v : Vend} {c q : Byte} (hv : (s.slot k).vend = some v)
    (happlying : s.engine.applying k = false) (hhand : (s.slot k).inHand = some (c, q))
    (hpending : (s.slot k).pendingChange = none) (hfree : s.UnawaitedBy k) :
    s.failedSlots.VendFaulted k (s.slot k) v c q := by
  have hsteady : ∀ sl : Slot, (sl.refusedFault c q v).Steady ∧ (sl.storeFaulted c q v).Steady := fun sl =>
    ⟨.inr (.inr ⟨rfl, rfl⟩), .inr (.inr ⟨rfl, rfl⟩)⟩
  refine (State.failedSlots_induct (s := s) (k := k)
    (before := fun u => u.slot k = s.slot k ∧ u.engine.applying k = false ∧ u.UnawaitedBy k)
    (after := fun u => u.VendFaulted k (s.slot k) v c q ∧ u.UnawaitedBy k)
    ⟨rfl, (s.engine.failUnit_applying k).trans happlying, hfree⟩ ?_ ?_ ?_).1
  · rintro u j hmode hj ⟨hslot, happ, hu⟩
    have hframe := failFrame_failSlot hmode j
    refine ⟨?_, (hframe.applying k).trans happ, hu.frame hframe⟩
    rw [State.failSlot_slot_free hmode hj (.inl (by rw [hslot, hv]; exact Option.some_ne_none v))
      (by rw [hslot]; exact hpending) hu, hslot]
  · rintro u hmode ⟨hslot, happ, hu⟩
    refine ⟨?_, hu.frame (failFrame_failSlot hmode k)⟩
    rw [← hslot] at hv hhand hpending ⊢
    exact State.failSlot_vendFaulted hv happ hhand hpending
  · rintro u j hmode hj ⟨hu, hfree⟩
    have hframe := failFrame_failSlot hmode j
    refine ⟨⟨?_, fun x hx => hu.reservations x (hframe.reservations x hx), fun x hx hn => ?_,
      fun hn => hframe.channels k (hu.channel hn)⟩, hfree.frame hframe⟩
    · rw [State.failSlot_slot_free hmode hj ?_ ?_ hfree, hu.slot]
      · rw [hu.slot]
        split
        · exact (hsteady _).1
        · exact (hsteady _).2
      · rw [hu.slot]
        split <;> exact hpending
    · obtain ⟨c', hc', hrec, hlock⟩ := hframe.locks x hx
      exact hlock (hu.locks c' hc' (by rw [← hrec]; exact hn))

end Sys2Proof.Machine
end

section
/-! PROOFS. The admin requests that FAILED mode refuses, and the obligation on the entry into FAILED mode (R40, R63, R85,
R103, R126, R145, R149). -/

namespace Sys2Proof.Machine

/-! ### Claims given back -/

/-- The claims of a refused admin request of slot k are given back in u; which slots had no work is said of s. -/
structure EntryBody.Returned (b : EntryBody) (s u : State) (k : SlotNo) : Prop where
  key     : ∀ g rev, b = .keyLoad g rev → (u.former.entry g).loading = false
  lock    : ∀ m, b = .retire m ∨ (∃ v, b = .meterUpdate m v) ∨ (∃ st, b = .meterHold m st) →
    ∀ x ∈ u.meters.cells, x.record.number = m → x.lock = none
  tariff  : ∀ t, b = .tariffLoad t → (u.tariff.schedule t.schedule).loading = false
  reserve : ∀ a, b = .recall a → ∀ x ∈ u.float.reservations, x.slot ≠ 0
  bind    : ∀ e, b = .bind e → (u.slot e.target).pendingChange = none
  unbind  : ∀ t, b = .unbind t → (u.slot t).pendingChange = none ∧
    ((s.slot t).vend = none → (t = k ∨ (s.slot t).admin = none) → (u.slot t).state = .idle)

theorem Slot.Falls.pending_none {x y : Slot} (h : x.Falls y) (hx : x.pendingChange = none) : y.pendingChange = none :=
  h.pending.elim (fun e => e.trans hx) id

theorem EntryBody.Returned.frame {b : EntryBody} {s u t : State} {k : SlotNo} (h : b.Returned s u k)
    (hframe : FailFrame u t) : b.Returned s t k where
  key := fun g rev hb => (hframe.keys g).2 (h.key g rev hb)
  lock := fun m hb x hx hn => by
    obtain ⟨c, hc, hrec, hlock⟩ := hframe.locks x hx
    exact hlock (h.lock m hb c hc (by rw [← hrec]; exact hn))
  tariff := fun t hb => hframe.schedules t.schedule (h.tariff t hb)
  reserve := fun a hb x hx => h.reserve a hb x (hframe.reservations x hx)
  bind := fun e hb => (hframe.slots e.target).pending_none (h.bind e hb)
  unbind := fun t hb => ⟨(hframe.slots t).pending_none (h.unbind t hb).1,
    fun hv ha => (hframe.slots t).idle ((h.unbind t hb).2 hv ha)⟩

theorem State.modKey_loading (s : State) (g : Nat) :
    ((s.modKey g (fun x => { x with loading := false })).former.entry g).loading = false :=
  congrArg KeyEntry.loading (Vector.getElem_set_self (Fin.ofNat 4 g).isLt)

theorem State.modSchedule_loading (s : State) (n : Nat) :
    ((s.modSchedule n (fun x => { x with loading := false })).tariff.schedule n).loading = false :=
  congrArg Schedule.loading (Vector.getElem_set_self (Fin.ofNat 8 n).isLt)

theorem State.releaseTarget_slot (s : State) (t : SlotNo) : ((s.releaseTarget t).slot t).pendingChange = none ∧
    ((s.slot t).vend = none → (s.slot t).admin = none → ((s.releaseTarget t).slot t).state = .idle) := by
  unfold State.releaseTarget
  rw [State.modSlot_slot_same]
  dsimp only
  split
  · exact ⟨rfl, fun _ _ => rfl⟩
  · next h =>
    refine ⟨rfl, fun hv ha => absurd ?_ h⟩
    rw [hv, ha]
    exact ⟨rfl, rfl⟩

/-- The claims of an entry are given back by their release (R40, R63, R85, R103, R145, R149). -/
theorem State.releaseClaims_returned {s w : State} {k : SlotNo} {b : EntryBody}
    (hwork : ∀ t, (s.slot t).vend = none → (t = k ∨ (s.slot t).admin = none) →
      (w.slot t).vend = none ∧ (w.slot t).admin = none) : b.Returned s (w.releaseClaims b) k := by
  refine ⟨?_, ?_, ?_, ?_, ?_, ?_⟩
  · rintro g rev rfl
    exact w.modKey_loading g
  · rintro m (rfl | ⟨v, rfl⟩ | ⟨st, rfl⟩)
    · exact setLock_cells_free w.meters m
    · exact setLock_cells_free w.meters m
    · exact setLock_cells_free w.meters m
  · rintro t rfl
    exact w.modSchedule_loading t.schedule
  · rintro a rfl
    exact filter_reservations _ 0
  · rintro e rfl
    exact congrArg Slot.pendingChange (w.modSlot_slot_same e.target (fun sl => { sl with pendingChange := none }))
  · rintro t rfl
    obtain ⟨hp, hidle⟩ := w.releaseTarget_slot t
    exact ⟨hp, fun hv ha => hidle (hwork t hv ha).1 (hwork t hv ha).2⟩

/-! ### The refused request's slot -/

/-- The record of a slot whose admin request FAILED mode has refused with a body. -/
def Slot.adminFault (sl : Slot) (c q : Byte) (body : List Byte) : Slot := { sl with
  state := .idle, inHand := none, admin := none, pendingChange := none
  held := some (responseFrame c q .refused (some .storeFault) body) }

/-- After its claims are given back, and its own unbind with them, the end of a refused request's work leaves its slot
idle with no mark. -/
theorem State.endWork_releaseClaims_slot {w : State} {k : SlotNo} {b : EntryBody}
    (h : (w.slot k).pendingChange = none ∨ b = .unbind k) : ((w.releaseClaims b).endWork k).slot k =
      { w.slot k with state := .idle, inHand := none, pendingChange := none } := by
  have settle : ∀ u : State, (u.slot k).pendingChange = none →
      { u.slot k with state := .idle, inHand := none } =
        { w.slot k with state := .idle, inHand := none, pendingChange := none } →
      (u.endWork k).slot k = { w.slot k with state := .idle, inHand := none, pendingChange := none } := by
    intro u hnone hslot
    rw [State.endWork_of_none hnone, State.modSlot_slot_same]
    exact hslot
  have kept : ∀ u : State, u.slot k = w.slot k → (w.slot k).pendingChange = none →
      (u.endWork k).slot k = { w.slot k with state := .idle, inHand := none, pendingChange := none } := fun u hu hnone =>
    settle u (by rw [hu]; exact hnone) (by rw [hu, ← hnone])
  cases b with
  | unbind t =>
    by_cases ht : t = k
    · subst ht
      refine settle _ (w.releaseTarget_slot t).1 ?_
      change { (w.modSlot t _).slot t with state := .idle, inHand := none } = _
      rw [State.modSlot_slot_same]
      dsimp only
      split <;> rfl
    · have hnone := h.resolve_right (fun e => ht (EntryBody.unbind.inj e))
      exact kept _ (State.modSlot_slot_other w _ (Ne.symm ht)) hnone
  | bind e =>
    have hnone := h.resolve_right (fun he => nomatch he)
    by_cases ht : e.target = k
    · refine kept _ ?_ hnone
      change (w.modSlot e.target _).slot k = _
      rw [ht, State.modSlot_slot_same, ← hnone]
    · exact kept _ (State.modSlot_slot_other w _ (Ne.symm ht)) hnone
  | _ => exact kept _ rfl (h.resolve_right (fun he => nomatch he))

/-- Slot k has an admin request that FAILED mode refuses: its entry queued, or in its stage write. -/
structure State.RefusedByFault (s : State) (k : SlotNo) (b : EntryBody) (ph : AdminPhase) (c q : Byte) : Prop where
  vend  : (s.slot k).vend = none
  admin : (s.slot k).admin = some ⟨some b, ph⟩
  phase : ph = .queued ∨ ∃ w, ph = .staging w
  hand  : (s.slot k).inHand = some (c, q)
  mark  : (s.slot k).pendingChange = none ∨ b = .unbind k
  waits : ∀ m : SlotNo, (s.slot m).pendingChange = some (.unbindBy k) → b = .unbind m

/-- Slot k's admin request before FAILED mode reaches it. -/
structure State.AdminBefore (s u : State) (k : SlotNo) : Prop where
  frame : FailFrame s.failStart u
  slot  : u.slot k = s.slot k ∨ u.slot k = { s.slot k with pendingChange := none }

/-- Slot k's admin request when FAILED mode has refused it. -/
structure State.AdminAfter (s u : State) (k : SlotNo) (b : EntryBody) (c q : Byte) (body : List Byte) : Prop where
  slot     : u.slot k = (s.slot k).adminFault c q body
  free     : u.UnawaitedBy k
  returned : b.Returned s u k

/-- Slot k with its refusal held and its operation gone. -/
def State.faultHeld (u : State) (k : SlotNo) (c q : Byte) (body : List Byte) : State :=
  (u.modSlot k (fun sl => { sl with
    admin := none, held := some (responseFrame c q .refused (some .storeFault) body) })).returnShare 1

theorem State.faultHeld_slot_same (u : State) (k : SlotNo) (c q : Byte) (body : List Byte) :
    (u.faultHeld k c q body).slot k = { u.slot k with
      admin := none, held := some (responseFrame c q .refused (some .storeFault) body) } := by
  rw [State.faultHeld, State.returnShare_slot, State.modSlot_slot_same]

theorem State.faultHeld_slot_other (u : State) {j k : SlotNo} (h : j ≠ k) (c q : Byte) (body : List Byte) :
    (u.faultHeld k c q body).slot j = u.slot j := by
  rw [State.faultHeld, State.returnShare_slot, State.modSlot_slot_other _ _ h]

section
variable {s u : State} {k : SlotNo} {b : EntryBody} {ph : AdminPhase} {c q : Byte}

theorem State.AdminAfter.other {body : List Byte} (h : s.AdminAfter u k b c q body) (hmode : u.journal.mode = .failed)
    {j : SlotNo} (hj : j ≠ k) : s.AdminAfter (u.failSlot j) k b c q body := by
  have hframe := failFrame_failSlot hmode j
  refine ⟨?_, h.free.frame hframe, h.returned.frame hframe⟩
  rw [State.failSlot_slot_free hmode hj (by rw [h.slot]; exact .inr (.inr ⟨rfl, rfl⟩)) (by rw [h.slot]; rfl) h.free, h.slot]

theorem State.AdminBefore.waits (h : s.AdminBefore u k) (hs : s.RefusedByFault k b ph c q) {m : SlotNo}
    (hm : (u.slot m).pendingChange = some (.unbindBy k)) : b = .unbind m := by
  rcases (h.frame.slots m).pending with he | he
  · exact hs.waits m (he.symm.trans hm)
  · cases he.symm.trans hm

/-- The work that an UNBIND of slot k waits for may end first, and refuse it (R149). -/
theorem State.AdminBefore.reached (h : s.AdminBefore u k) (hs : s.RefusedByFault k b ph c q) {t : State}
    (hframe : FailFrame u t) (hreach : u.ChainReached t k) :
    s.AdminAfter t k b c q (s.lateBody ⟨some b, ph⟩) := by
  obtain ⟨m, hmk, hm, hp, hst, hk⟩ := hreach
  have hb := h.waits hs hm
  have hnone : (s.slot k).pendingChange = none := hs.mark.resolve_right (fun e => by
    rw [hb] at e
    exact hmk (EntryBody.unbind.inj e))
  have huk : u.slot k = s.slot k := h.slot.elim id (fun he => by rw [he, ← hnone])
  refine ⟨?_, fun i hi => ?_, ?_⟩
  · rw [hk (by rw [huk]; exact hnone), huk, hb]
    unfold Slot.unbindFault Slot.adminFault
    rw [hs.hand, hnone]
    rfl
  · rcases (hframe.slots i).pending with he | he
    · have hbi := h.waits hs (he.symm.trans hi)
      rw [hb] at hbi
      rw [← EntryBody.unbind.inj hbi] at hi
      cases hp.symm.trans hi
    · cases he.symm.trans hi
  · subst hb
    refine ⟨fun _ _ e => ?_, fun _ e => ?_, fun _ e => ?_, fun _ e => ?_, fun _ e => ?_, fun t e => ?_⟩
    · cases e
    · rcases e with e | ⟨_, e⟩ | ⟨_, e⟩ <;> cases e
    · cases e
    · cases e
    · cases e
    · cases e
      exact ⟨hp, fun _ _ => hst⟩

theorem State.AdminBefore.other (h : s.AdminBefore u k) (hs : s.RefusedByFault k b ph c q)
    (hmode : u.journal.mode = .failed) {j : SlotNo} (hj : j ≠ k) :
    s.AdminBefore (u.failSlot j) k ∨ s.AdminAfter (u.failSlot j) k b c q (s.lateBody ⟨some b, ph⟩) := by
  have hframe := failFrame_failSlot hmode j
  have hsteady : (u.slot k).Steady := by
    refine .inr (.inl ?_)
    rcases h.slot with he | he <;> rw [he, hs.admin] <;> exact Option.some_ne_none _
  rcases State.failSlot_slot hmode hj hsteady with hslot | hslot | hreach
  · exact .inl ⟨h.frame.trans hframe, by rw [hslot]; exact h.slot⟩
  · exact .inl ⟨h.frame.trans hframe, .inr (by rw [hslot]; rcases h.slot with he | he <;> rw [he])⟩
  · exact .inr (h.reached hs hframe hreach)

theorem State.AdminBefore.turn (h : s.AdminBefore u k) (hs : s.RefusedByFault k b ph c q)
    (hmode : u.journal.mode = .failed) : s.AdminAfter (u.failSlot k) k b c q (s.lateBody ⟨some b, ph⟩) := by
  have huv : (u.slot k).vend = none := by rcases h.slot with he | he <;> rw [he, hs.vend]
  have hua : (u.slot k).admin = some ⟨some b, ph⟩ := by rcases h.slot with he | he <;> rw [he, hs.admin]
  have huhand : (u.slot k).inHand = some (c, q) := by rcases h.slot with he | he <;> rw [he, hs.hand]
  have humark : (u.slot k).pendingChange = none ∨ b = .unbind k := by
    rcases h.slot with he | he
    · rw [he]
      exact hs.mark
    · exact .inl (by rw [he])
  have hlate : u.lateBody ⟨some b, ph⟩ = s.lateBody ⟨some b, ph⟩ := h.frame.lateBody _
  obtain ⟨w, hw⟩ : ∃ w, w = u.faultHeld k c q (s.lateBody ⟨some b, ph⟩) := ⟨_, rfl⟩
  have hrefuse : u.failSlot k = (w.releaseClaims b).endWork k := by
    rw [State.failSlot_admin huv hua hs.phase, State.refuseAdmin_of huhand, hlate, hw]
    rfl
  have hwork : ∀ t, (s.slot t).vend = none → (t = k ∨ (s.slot t).admin = none) →
      (w.slot t).vend = none ∧ (w.slot t).admin = none := by
    intro t hv ha
    by_cases ht : t = k
    · rw [ht, hw, State.faultHeld_slot_same]
      exact ⟨huv, rfl⟩
    · rw [hw, State.faultHeld_slot_other _ ht]
      obtain ⟨-, hvend, hadmin, -⟩ := h.frame.slots t
      exact ⟨hvend.elim (fun e => e.trans hv) id, hadmin.elim (fun e => e.trans (ha.resolve_left ht)) id⟩
  have hframe := failFrame_failSlot hmode k
  have hreturned : b.Returned s (u.failSlot k) k := by
    rw [hrefuse]
    refine (State.releaseClaims_returned hwork).frame (failFrame_finishWork 8 ?_ k)
    rw [(failFrame_releaseClaims w b).mode, hw]
    exact hmode
  refine ⟨?_, fun m hm => ?_, hreturned⟩
  · have hwk := u.faultHeld_slot_same k c q (s.lateBody ⟨some b, ph⟩)
    rw [← hw] at hwk
    rw [hrefuse, State.endWork_releaseClaims_slot (by rw [hwk]; exact humark), hwk]
    rcases h.slot with he | he <;> rw [he] <;> rfl
  · rcases (hframe.slots m).pending with he | he
    · have hb := h.waits hs (he.symm.trans hm)
      cases (hreturned.unbind m hb).1.symm.trans hm
    · cases he.symm.trans hm

end

theorem State.RefusedByFault.after {s : State} {k : SlotNo} {b : EntryBody} {ph : AdminPhase} {c q : Byte}
    (hs : s.RefusedByFault k b ph c q) : s.AdminAfter s.failedSlots k b c q (s.lateBody ⟨some b, ph⟩) := by
  have hstart : s.AdminBefore s.failStart k := ⟨FailFrame.refl s.failStart, .inl rfl⟩
  refine State.failedSlots_induct (s := s) (k := k)
    (before := fun u => s.AdminBefore u k ∨ s.AdminAfter u k b c q (s.lateBody ⟨some b, ph⟩))
    (after := fun u => s.AdminAfter u k b c q (s.lateBody ⟨some b, ph⟩)) (.inl hstart) (fun u j hmode hj hu => ?_) (fun u hmode hu => ?_)
    (fun u j hmode hj hu => hu.other hmode hj)
  · rcases hu with hu | hu
    · exact hu.other hs hmode hj
    · exact .inr (hu.other hmode hj)
  · rcases hu with hu | hu
    · exact hu.turn hs hmode
    · rw [State.failSlot_idle (by rw [hu.slot]; exact hs.vend) (by rw [hu.slot]; rfl)]
      exact hu

/-! ### The unbind that waits -/

/-- The work of a slot ends in FAILED mode, and the UNBIND that waited for it is refused (R149). -/
theorem State.endWork_failed {s : State} {k j : SlotNo} {c q : Byte} (hj : j ≠ k) (hmode : s.journal.mode = .failed)
    (hk : (s.slot k).pendingChange = some (.unbindBy j)) (hnone : (s.slot j).pendingChange = none)
    (hhand : (s.slot j).inHand = some (c, q)) : s.endWork k = { s with
      slots := (s.slots.set k { s.slot k with state := .idle, inHand := none, pendingChange := none }).set j
        { s.slot j with
          state := .idle, inHand := none, admin := none
          held := some (responseFrame c q .refused (some .storeFault) []) }
      journal := { s.journal with reserved := s.journal.reserved - 1 } } := by
  have hslot := State.faultUnbind_slot_waiting (s := s) hj
  rw [State.endWork, State.finishWork_unbind 7 hk hmode,
    State.finishWork_settled 6 (fun i hi => by rw [hslot] at hi; cases hi.symm.trans hnone)]
  rw [State.faultUnbind, State.respond_eq (c := c) (q := q) (by rw [State.modSlot_slot_other _ _ hj]; exact hhand),
    State.modSlot_modSlot, State.returnShare_modSlot, State.modSlot_modSlot, State.modSlot_modSlot_other s hj]
  rfl

/-- Settles O34. -/
theorem failedModeEndsEveryPromise : Obligations.FailedModeEndsEveryPromise := by
  refine ⟨fun s => ?_,
    fun s k v c q hk hv happlying hhand hpending hfree => ?_, fun s k b ph c q hv ha hph hhand hmark hwaits => ?_,
    fun s k j c q hj hmode hk hnone hhand => State.endWork_failed hj hmode hk hnone hhand⟩
  · obtain ⟨-, -, ⟨-, -, -, hport⟩, ⟨hwork, hnv, -⟩, -⟩ := s.enterFailed_settles
    obtain ⟨-, hport', -, hwork', hnv', -⟩ := (failFrame_failedSlots s).fixed
    exact ⟨s.enterFailed_journal, hwork.trans hwork', hnv.trans hnv', hport.trans hport',
      fun k v happlying hv => State.enterFailed_applying happlying hv⟩
  · obtain ⟨hslot, hreserve, hlock, hchannel⟩ := State.enterFailed_vendFaulted hv happlying hhand hpending hfree
    obtain ⟨-, -, ⟨-, -, hmeters, -⟩, ⟨-, -, hfloat⟩, hclock⟩ := s.enterFailed_settles
    rw [hmeters, hfloat, s.enterFailed_settles.slot, hclock k hk]
    refine ⟨hreserve, hlock, fun hnum => ?_, fun n hnum => ⟨hchannel (by rw [hnum]; rfl), ?_⟩⟩
    · rw [hslot, hnum]
      rfl
    · rw [hslot, hnum]
      rw [Slot.storeFaulted, hnum]
      rfl
  · have hs : s.RefusedByFault k b ph c q := ⟨hv, ha, hph, hhand, hmark, hwaits⟩
    obtain ⟨hslot, -, hkey, hlock, htariff, hreserve, hbind, hunbind⟩ := hs.after
    obtain ⟨-, -, ⟨hformer, htar, hmeters, -⟩, ⟨-, -, hfloat⟩, -⟩ := s.enterFailed_settles
    have hslots := s.enterFailed_settles.slot
    rw [hmeters, hfloat, hformer, htar]
    refine ⟨(hslots k).trans hslot, fun g rev hb => ⟨?_, hkey g rev hb⟩, hlock, htariff, hreserve, fun e hb => ?_,
      fun t hb => ?_⟩
    · rw [hb]
      rfl
    · rw [hslots]
      exact hbind e hb
    · rw [hslots]
      exact hunbind t hb

end Sys2Proof.Machine
end

section
/-! PROOFS. What the entry into HOLDUP leaves alone: overtakings, and the refusals of the UNBINDs that wait
(R26, R30, R149, R168). -/

namespace Sys2Proof.Machine

/-! ### Frames -/

/-- What overtakings and the ends of work leave alone: the records, the store, the port; a mark on a slot may go, and an
admin operation may end or its UNBIND join the queue. -/
structure HoldFrame (s t : State) : Prop where
  watch   : t.watch = s.watch
  port    : t.port = s.port
  tariff  : t.tariff = s.tariff
  float   : t.float.work = s.float.work ∧ t.float.nv = s.float.nv
  store   : t.journal.store = s.journal.store ∧ t.journal.last = s.journal.last ∧ t.journal.mark = s.journal.mark ∧
    t.journal.mode = s.journal.mode
  pending : ∀ j, (t.slot j).pendingChange = (s.slot j).pendingChange ∨ (t.slot j).pendingChange = none
  admin   : ∀ j, (t.slot j).admin = (s.slot j).admin ∨ (t.slot j).admin = none ∨
    ∃ m, (t.slot j).admin = some ⟨some (.unbind m), .queued⟩

/-- What keeps slot k's vend as it is: its record, its unit, its entries in the queue, its clear channel. -/
structure VendKept (k : SlotNo) (s t : State) : Prop where
  vend    : (t.slot k).vend = (s.slot k).vend
  unit    : s.engine.unitOf k = none → t.engine.unitOf k = none
  queue   : ∀ e ∈ s.journal.queue, e.place = .slot k → e ∈ t.journal.queue
  channel : s.clock.channels[k] = none → t.clock.channels[k] = none

theorem HoldFrame.refl (s : State) : HoldFrame s s :=
  ⟨rfl, rfl, rfl, ⟨rfl, rfl⟩, ⟨rfl, rfl, rfl, rfl⟩, fun _ => .inl rfl, fun _ => .inl rfl⟩

theorem HoldFrame.trans {s t u : State} (h : HoldFrame s t) (g : HoldFrame t u) : HoldFrame s u where
  watch := g.watch.trans h.watch
  port := g.port.trans h.port
  tariff := g.tariff.trans h.tariff
  float := ⟨g.float.1.trans h.float.1, g.float.2.trans h.float.2⟩
  store := by
    obtain ⟨a1, a2, a3, a4⟩ := h.store
    obtain ⟨b1, b2, b3, b4⟩ := g.store
    exact ⟨b1.trans a1, b2.trans a2, b3.trans a3, b4.trans a4⟩
  pending := fun j => (g.pending j).elim (fun e => (h.pending j).imp e.trans e.trans) .inr
  admin := fun j => by
    rcases g.admin j with e | e | e
    · rw [e]
      exact h.admin j
    · exact .inr (.inl e)
    · exact .inr (.inr e)

theorem VendKept.refl (k : SlotNo) (s : State) : VendKept k s s := ⟨rfl, id, fun _ h _ => h, id⟩

theorem VendKept.trans {k : SlotNo} {s t u : State} (h : VendKept k s t) (g : VendKept k t u) : VendKept k s u :=
  ⟨g.vend.trans h.vend, g.unit ∘ h.unit, fun e he hp => g.queue e (h.queue e he hp) hp, g.channel ∘ h.channel⟩

theorem HoldFrame.unawaited {s t : State} (h : HoldFrame s t) {k : SlotNo} (hs : s.UnawaitedBy k) : t.UnawaitedBy k := by
  intro m hm
  rcases h.pending m with he | he
  · exact hs m (he.symm.trans hm)
  · cases he.symm.trans hm

section
variable (s : State)

theorem holdFrame_modSlot (k : SlotNo) {f : Slot → Slot}
    (hp : (f (s.slot k)).pendingChange = (s.slot k).pendingChange ∨ (f (s.slot k)).pendingChange = none)
    (ha : (f (s.slot k)).admin = (s.slot k).admin ∨ (f (s.slot k)).admin = none ∨
      ∃ m, (f (s.slot k)).admin = some ⟨some (.unbind m), .queued⟩) : HoldFrame s (s.modSlot k f) := by
  refine ⟨rfl, rfl, rfl, ⟨rfl, rfl⟩, ⟨rfl, rfl, rfl, rfl⟩, fun j => ?_, fun j => ?_⟩
  · by_cases hj : j = k
    · rw [hj, State.modSlot_slot_same]
      exact hp
    · rw [State.modSlot_slot_other s f hj]
      exact .inl rfl
  · by_cases hj : j = k
    · rw [hj, State.modSlot_slot_same]
      exact ha
    · rw [State.modSlot_slot_other s f hj]
      exact .inl rfl

theorem vendKept_modSlot (k j : SlotNo) {f : Slot → Slot} (h : j = k → (f (s.slot j)).vend = (s.slot j).vend) :
    VendKept k s (s.modSlot j f) := by
  refine ⟨?_, id, fun _ h _ => h, id⟩
  by_cases hj : j = k
  · subst hj
    rw [State.modSlot_slot_same]
    exact h rfl
  · rw [State.modSlot_slot_other s f (Ne.symm hj)]

/-- A change of a slot's state, request in hand or held response, or the loss of its mark. -/
theorem holdFrame_mark (k : SlotNo) {f : Slot → Slot}
    (hp : (f (s.slot k)).pendingChange = (s.slot k).pendingChange ∨ (f (s.slot k)).pendingChange = none)
    (ha : (f (s.slot k)).admin = (s.slot k).admin) (hv : (f (s.slot k)).vend = (s.slot k).vend) :
    HoldFrame s (s.modSlot k f) ∧ ∀ i, VendKept i s (s.modSlot k f) :=
  ⟨holdFrame_modSlot s k hp (.inl ha), fun i => vendKept_modSlot s i k (fun _ => hv)⟩

theorem holdFrame_respond (k : SlotNo) (res : Result) (r : Option Reason) (body : List Byte) :
    HoldFrame s (s.respond k res r body) ∧ ∀ i, VendKept i s (s.respond k res r body) :=
  holdFrame_mark s k (f := fun sl => { sl with held := some _ }) (.inl rfl) rfl rfl

theorem holdFrame_returnShare (n : Nat) : HoldFrame s (s.returnShare n) ∧ ∀ i, VendKept i s (s.returnShare n) :=
  ⟨⟨rfl, rfl, rfl, ⟨rfl, rfl⟩, ⟨rfl, rfl, rfl, rfl⟩, fun _ => .inl rfl, fun _ => .inl rfl⟩,
    fun _ => ⟨rfl, id, fun _ h _ => h, id⟩⟩

theorem holdFrame_enqueue (e : QEntry) : HoldFrame s (s.enqueue e) ∧ ∀ i, VendKept i s (s.enqueue e) :=
  ⟨⟨rfl, rfl, rfl, ⟨rfl, rfl⟩, ⟨rfl, rfl, rfl, rfl⟩, fun _ => .inl rfl, fun _ => .inl rfl⟩,
    fun _ => ⟨rfl, id, fun _ h _ => List.mem_append_left _ h, id⟩⟩

theorem holdFrame_releaseTarget (t : SlotNo) :
    HoldFrame s (s.releaseTarget t) ∧ ∀ i, VendKept i s (s.releaseTarget t) := by
  refine holdFrame_mark s t ?_ ?_ ?_
  · dsimp only
    split <;> exact .inr rfl
  · dsimp only
    split <;> rfl
  · dsimp only
    split <;> rfl

/-- An admin operation of a slot ends, or is its UNBIND in the queue. -/
theorem holdFrame_admin (k : SlotNo) {a : Option AdminOp}
    (ha : a = none ∨ ∃ m, a = some ⟨some (.unbind m), .queued⟩) :
    HoldFrame s (s.modSlot k (fun sl => { sl with admin := a })) ∧
      ∀ i, VendKept i s (s.modSlot k (fun sl => { sl with admin := a })) :=
  ⟨holdFrame_modSlot s k (.inl rfl) (.inr ha), fun i => vendKept_modSlot s i k (fun _ => rfl)⟩

end

/-- Frames of one state after another. -/
theorem holdFrame_trans {s t u : State} (h : HoldFrame s t ∧ ∀ i, VendKept i s t) (g : HoldFrame t u ∧ ∀ i, VendKept i t u) :
    HoldFrame s u ∧ ∀ i, VendKept i s u :=
  ⟨h.1.trans g.1, fun i => (h.2 i).trans (g.2 i)⟩

theorem holdFrame_faultUnbind (s : State) (k j : SlotNo) :
    HoldFrame s (s.faultUnbind k j) ∧ ∀ i, VendKept i s (s.faultUnbind k j) :=
  holdFrame_trans (holdFrame_mark s k (f := fun sl => { sl with state := .idle, inHand := none, pendingChange := none })
    (.inr rfl) rfl rfl) (holdFrame_trans (holdFrame_respond _ j _ _ _)
      (holdFrame_trans (holdFrame_admin _ j (.inl rfl)) (holdFrame_returnShare _ 1)))

/-- The end of a slot's work, in both modes. -/
theorem holdFrame_finishWork (fuel : Nat) (s : State) (j : SlotNo) :
    HoldFrame s (s.finishWork fuel j) ∧ ∀ i, VendKept i s (s.finishWork fuel j) := by
  induction fuel generalizing s j with
  | zero => exact ⟨HoldFrame.refl s, fun i => VendKept.refl i s⟩
  | succ fuel ih =>
    by_cases h : ∃ l, (s.slot j).pendingChange = some (.unbindBy l)
    · obtain ⟨l, hl⟩ := h
      cases hmode : s.journal.mode with
      | normal =>
        have hfinish : s.finishWork (fuel + 1) j =
            ((s.modSlot j (fun sl => { sl with state := .working, inHand := some unbindInHand })).modSlot l
              (fun sl => { sl with admin := some ⟨some (.unbind j), .queued⟩ })).enqueue (adminEntry l (.unbind j)) := by
          rw [State.finishWork, hl]
          dsimp only
          rw [hmode]
        rw [hfinish]
        exact holdFrame_trans (holdFrame_mark s j (f := fun sl => { sl with state := .working, inHand := some unbindInHand })
          (.inl rfl) rfl rfl) (holdFrame_trans (holdFrame_admin _ l (.inr ⟨j, rfl⟩)) (holdFrame_enqueue _ _))
      | failed =>
        rw [State.finishWork_unbind fuel hl hmode]
        exact holdFrame_trans (holdFrame_faultUnbind s j l) (ih _ l)
    · rw [State.finishWork_settled fuel (fun l hl => h ⟨l, hl⟩)]
      exact holdFrame_mark s j (f := fun sl => { sl with state := .idle, inHand := none }) (.inl rfl) rfl rfl

/-- The end of another slot's work reaches slot k through an UNBIND of its own alone (R147, R149). -/
theorem State.endWork_slot_other {s : State} {j k : SlotNo} (hj : j ≠ k)
    (h : s.UnawaitedBy k ∨ s.journal.mode = .normal ∧ (s.slot j).pendingChange ≠ some (.unbindBy k)) :
    (s.endWork j).slot k = s.slot k := by
  cases hmode : s.journal.mode with
  | failed =>
    rcases h with hfree | ⟨hnormal, -⟩
    · rcases State.endWork_slot hmode hj with hsame | ⟨m, -, hm, -⟩
      · exact hsame
      · exact absurd hm (hfree m)
    · cases hmode.symm.trans hnormal
  | normal =>
    have hpending : (s.slot j).pendingChange ≠ some (.unbindBy k) := h.elim (fun hfree => hfree j) And.right
    by_cases hl : ∃ l, (s.slot j).pendingChange = some (.unbindBy l)
    · obtain ⟨l, hl⟩ := hl
      have hlk : k ≠ l := fun e => hpending (by rw [hl, e])
      rw [State.endWork_unbind hl hmode, State.enqueue_slot, State.modSlot_slot_other _ _ hlk,
        State.modSlot_slot_other _ _ hj.symm]
    · rw [State.endWork, State.finishWork_settled 7 (fun l h => hl ⟨l, h⟩)]
      exact State.modSlot_slot_other _ _ hj.symm

/-! ### Overtakings -/

/-- Slot j's vend is what an operation on its own slot changes. -/
theorem holdFrame_ownVend (s : State) (j : SlotNo) {f : Slot → Slot} (hp : (f (s.slot j)).pendingChange = (s.slot j).pendingChange)
    (ha : (f (s.slot j)).admin = (s.slot j).admin) :
    HoldFrame s (s.modSlot j f) ∧ ∀ i, i ≠ j → VendKept i s (s.modSlot j f) :=
  ⟨holdFrame_modSlot s j (.inl hp) (.inl ha), fun i hi => vendKept_modSlot s i j (fun e => absurd e.symm hi)⟩

theorem holdFrame_closeVend (s : State) (j : SlotNo) (v : Vend) (e : Ending) (r : Option Reason) :
    HoldFrame s (s.closeVend j v e r) ∧ ∀ i, i ≠ j → VendKept i s (s.closeVend j v e r) := by
  obtain ⟨h, g⟩ := holdFrame_ownVend s j (f := fun sl => { sl with
    vend := some { v with phase := .closing, ending := some (e, r), pendingEnding := none } }) rfl rfl
  obtain ⟨h', g'⟩ := holdFrame_enqueue (s.modSlot j (fun sl => { sl with
    vend := some { v with phase := .closing, ending := some (e, r), pendingEnding := none } })) _
  exact ⟨h.trans h', fun i hi => (g i hi).trans (g' i)⟩

theorem holdFrame_setChannel (s : State) (j : SlotNo) :
    HoldFrame s (s.setChannel j none) ∧ ∀ i, i ≠ j → VendKept i s (s.setChannel j none) :=
  ⟨⟨rfl, rfl, rfl, ⟨rfl, rfl⟩, ⟨rfl, rfl, rfl, rfl⟩, fun _ => .inl rfl, fun _ => .inl rfl⟩,
    fun i hi => ⟨rfl, id, fun _ h _ => h, fun h => (s.clock.setChannel_other none hi).trans h⟩⟩

theorem Engine.unitOf_discard (e : Engine) (u : UnitInProgress) (k : SlotNo) :
    ({ e with unit := some { u with discarded := true } } : Engine).unitOf k = none := by
  simp [Engine.unitOf, Option.filter]

theorem holdFrame_discardUnit (s : State) (u : UnitInProgress) :
    HoldFrame s (s.discardUnit u) ∧ ∀ i, VendKept i s (s.discardUnit u) :=
  ⟨⟨rfl, rfl, rfl, ⟨rfl, rfl⟩, ⟨rfl, rfl, rfl, rfl⟩, fun _ => .inl rfl, fun _ => .inl rfl⟩,
    fun i => ⟨rfl, fun _ => s.engine.unitOf_discard u i, fun _ h _ => h, id⟩⟩

theorem holdFrame_withdrawOpen (s : State) (j : SlotNo) :
    HoldFrame s (s.withdrawOpen j) ∧ ∀ i, i ≠ j → VendKept i s (s.withdrawOpen j) := by
  refine ⟨⟨rfl, rfl, rfl, ⟨rfl, rfl⟩, ⟨rfl, rfl, rfl, rfl⟩, fun _ => .inl rfl, fun _ => .inl rfl⟩,
    fun i hi => ⟨rfl, id, fun e he hp => ?_, id⟩⟩
  refine List.mem_filter.mpr ⟨he, ?_⟩
  rw [bne_iff_ne, hp]
  exact fun h => hi (Place.slot.inj h)

/-- What the end of a vend REFUSED does before its slot's work ends. -/
def State.refusedVend (s : State) (j : SlotNo) (v : Vend) (r : Reason) : State :=
  ((((s.returnShare v.share).releaseReservation j).setLock v.meter none).respond j .refused (some r)
    (beBytes 4 v.receipt)).removeVend j ⟨none, .refused, some r, v.issued, v.undelivered⟩

theorem State.endRefused_refusedVend (s : State) (j : SlotNo) (v : Vend) (r : Reason) :
    s.endRefused j v r = (s.refusedVend j v r).endWork j := rfl

theorem holdFrame_refusedVend (s : State) (j : SlotNo) (v : Vend) (r : Reason) :
    HoldFrame s (s.refusedVend j v r) ∧ ∀ i, i ≠ j → VendKept i s (s.refusedVend j v r) := by
  have claims : HoldFrame s (((s.returnShare v.share).releaseReservation j).setLock v.meter none) ∧
      ∀ i, VendKept i s (((s.returnShare v.share).releaseReservation j).setLock v.meter none) :=
    ⟨⟨rfl, rfl, rfl, ⟨rfl, rfl⟩, ⟨rfl, rfl, rfl, rfl⟩, fun _ => .inl rfl, fun _ => .inl rfl⟩,
      fun _ => ⟨rfl, id, fun _ h _ => h, id⟩⟩
  obtain ⟨h, g⟩ := holdFrame_trans claims (holdFrame_respond _ j .refused (some r) (beBytes 4 v.receipt))
  obtain ⟨h', g'⟩ := holdFrame_ownVend ((((s.returnShare v.share).releaseReservation j).setLock v.meter none).respond j
    .refused (some r) (beBytes 4 v.receipt)) j (f := fun sl => { sl with
      vend := none, lastEnding := some ⟨none, .refused, some r, v.issued, v.undelivered⟩ }) rfl rfl
  exact ⟨h.trans h', fun i hi => (g i).trans (g' i hi)⟩

theorem holdFrame_endRefused (s : State) (j : SlotNo) (v : Vend) (r : Reason) :
    HoldFrame s (s.endRefused j v r) ∧ ∀ i, i ≠ j → VendKept i s (s.endRefused j v r) := by
  obtain ⟨h, g⟩ := holdFrame_refusedVend s j v r
  obtain ⟨h', g'⟩ := holdFrame_finishWork 8 (s.refusedVend j v r) j
  exact ⟨h.trans h', fun i hi => (g i hi).trans (g' i)⟩

/-- An overtaking: what it leaves alone, and that a vend of another slot is kept. -/
theorem holdFrame_overtake (s : State) (j : SlotNo) (r : Reason) :
    HoldFrame s (s.overtake j r) ∧ ∀ i, i ≠ j → VendKept i s (s.overtake j r) := by
  have same : HoldFrame s s ∧ ∀ i, i ≠ j → VendKept i s s := ⟨HoldFrame.refl s, fun i _ => VendKept.refl i s⟩
  have pend : ∀ v, HoldFrame s (s.setPendingEnding j v r) ∧ ∀ i, i ≠ j → VendKept i s (s.setPendingEnding j v r) := fun v =>
    holdFrame_ownVend s j (f := fun sl => { sl with vend := some { v with pendingEnding := some r } }) rfl rfl
  unfold State.overtake
  split
  · exact same
  · next v hv =>
    split
    · exact same
    · split
      · exact same
      · split
        · exact pend v
        · split
          · exact holdFrame_endRefused s j v r
          · split
            · obtain ⟨h, g⟩ := holdFrame_withdrawOpen s j
              obtain ⟨h', g'⟩ := holdFrame_endRefused (s.withdrawOpen j) j v r
              exact ⟨h.trans h', fun i hi => (g i hi).trans (g' i hi)⟩
            · exact pend v
      · split
        · next u hu =>
          split
          · obtain ⟨h, g⟩ := holdFrame_discardUnit s u
            obtain ⟨h', g'⟩ := holdFrame_closeVend (s.discardUnit u) j v .partly (some r)
            exact ⟨h.trans h', fun i hi => (g i).trans (g' i hi)⟩
          · exact pend v
          · exact pend v
        · obtain ⟨h, g⟩ := holdFrame_setChannel s j
          obtain ⟨h', g'⟩ := holdFrame_ownVend (s.setChannel j none) j (f := fun sl => { sl with state := .working }) rfl rfl
          obtain ⟨h'', g''⟩ := holdFrame_closeVend ((s.setChannel j none).modSlot j
            (fun sl => { sl with state := .working })) j v .partly (some r)
          exact ⟨(h.trans h').trans h'', fun i hi => ((g i hi).trans (g' i hi)).trans (g'' i hi)⟩

/-- An overtaking of another slot reaches slot k through the end of work that an UNBIND of slot k waits for alone. -/
theorem State.overtake_slot_other {s : State} {j k : SlotNo} (hj : j ≠ k) (r : Reason)
    (h : s.UnawaitedBy k ∨ s.journal.mode = .normal ∧ (s.slot j).pendingChange ≠ some (.unbindBy k)) :
    (s.overtake j r).slot k = s.slot k := by
  have refused : ∀ (u : State) (v : Vend), u.slots = s.slots → u.journal.mode = s.journal.mode →
      (u.endRefused j v r).slot k = s.slot k := by
    intro u v hslots hmode
    have hu : ∀ i, u.slot i = s.slot i := fun i => State.slot_of_slots_eq hslots i
    obtain ⟨hframe, -⟩ := holdFrame_refusedVend u j v r
    have hslot : (u.refusedVend j v r).slot k = s.slot k := by
      rw [← hu k]
      exact (State.modSlot_slot_other _ _ hj.symm).trans (State.respond_slot_other _ hj.symm _ _ _)
    have hpend : ((u.refusedVend j v r).slot j).pendingChange = (s.slot j).pendingChange ∨
        ((u.refusedVend j v r).slot j).pendingChange = none := by
      rw [← hu j]
      exact hframe.pending j
    rw [State.endRefused_refusedVend, State.endWork_slot_other hj ?_, hslot]
    refine h.imp (fun hfree => hframe.unawaited (fun m => by rw [hu m]; exact hfree m)) (fun ⟨hnormal, hne⟩ => ?_)
    obtain ⟨-, -, -, hm⟩ := hframe.store
    refine ⟨hm.trans (hmode.trans hnormal), fun he => ?_⟩
    rcases hpend with hp | hp
    · exact hne (hp.symm.trans he)
    · cases hp.symm.trans he
  have own : ∀ (u : State) (f : Slot → Slot), (u.modSlot j f).slot k = u.slot k := fun u f =>
    State.modSlot_slot_other u f hj.symm
  have closed : ∀ (u : State) (v : Vend) (e : Ending) (x : Option Reason), (u.closeVend j v e x).slot k = u.slot k :=
    fun u v e x => by
      rw [State.closeVend, State.enqueue_slot]
      exact own u _
  unfold State.overtake
  split
  · rfl
  · next v hv =>
    split
    · rfl
    · split
      · rfl
      · split
        · exact own _ _
        · split
          · exact refused s v rfl rfl
          · split
            · exact refused (s.withdrawOpen j) v rfl rfl
            · exact own _ _
      · split
        · next u hu =>
          split
          · exact closed _ v _ _
          · exact own _ _
          · exact own _ _
        · exact (closed _ v _ _).trans (own _ _)

end Sys2Proof.Machine
end

section
/-! PROOFS. The supply warning, the entry into HOLDUP, and the return from it (R26, R30, R85, R149, R166, R168, R170). -/

namespace Sys2Proof.Machine

/-! ### Turns over a list of slots -/

/-- What holds of slot k before its own turn, and what its turn brings about, is kept by the turns of the others. -/
theorem foldl_turn {f : State → SlotNo → State} {k : SlotNo} {before after : State → Prop} {l : List SlotNo} {s : State}
    (hk : k ∈ l) (hnodup : l.Nodup) (hstart : before s) (hbefore : ∀ u j, j ≠ k → before u → before (f u j))
    (hturn : ∀ u, before u → after (f u k)) (hafter : ∀ u j, j ≠ k → after u → after (f u j)) : after (l.foldl f s) := by
  have fold : ∀ (P : State → Prop), (∀ u j, j ≠ k → P u → P (f u j)) → ∀ (l : List SlotNo) (u : State), k ∉ l → P u →
      P (l.foldl f u) := by
    intro P hP l
    induction l with
    | nil => exact fun u _ hu => hu
    | cons j l ih =>
      intro u hk hu
      rw [List.mem_cons, not_or] at hk
      exact ih _ hk.2 (hP u j (Ne.symm hk.1) hu)
  obtain ⟨l, r, rfl⟩ := List.append_of_mem hk
  obtain ⟨hl, hr⟩ : k ∉ l ∧ k ∉ r := by
    have hk := (List.nodup_cons.mp (List.nodup_middle.mp hnodup)).1
    exact ⟨fun h => hk (List.mem_append_left r h), fun h => hk (List.mem_append_right l h)⟩
  rw [List.foldl_append, List.foldl_cons]
  exact fold after hafter r _ hr (hturn _ (fold before hbefore l s hl hstart))

theorem foldl_keeps {α : Type} {f : State → α → State} {P : State → Prop} {l : List α} {s : State} (hs : P s)
    (h : ∀ u, ∀ j ∈ l, P u → P (f u j)) : P (l.foldl f s) := by
  induction l generalizing s with
  | nil => exact hs
  | cons j l ih => exact ih (h s j List.mem_cons_self hs) (fun u i hi => h u i (List.mem_cons_of_mem j hi))

theorem mem_searchOrder {p k : SlotNo} : k ∈ searchOrder p ↔ k ≠ 0 := by
  revert p k
  decide

theorem nodup_searchOrder (p : SlotNo) : (searchOrder p).Nodup := by
  revert p
  decide

/-! ### The parts of the entry into HOLDUP -/

section
variable {s : State}

/-- The state in which the entry into HOLDUP overtakes the vends (R168). -/
def State.heldUp (s : State) : State := { s with watch := { s.watch with part := .holdup, warning := true } }

/-- The vends overtaken one by one in the order of the engine's search (R30). -/
@[irreducible] def State.overtaken (s : State) : State :=
  (searchOrder s.engine.position).foldl (fun u k => u.overtake k .powerLow) s.heldUp

theorem holdFrame_overtaken (s : State) : HoldFrame s.heldUp s.overtaken := by
  unfold State.overtaken
  exact foldl_keeps (P := HoldFrame s.heldUp) (HoldFrame.refl _)
    fun u k _ hu => hu.trans (holdFrame_overtake u k .powerLow).1

theorem holdFrame_releaseWaitedFor (s : State) :
    HoldFrame s s.releaseWaitedFor ∧ ∀ i, VendKept i s s.releaseWaitedFor :=
  foldl_keeps (P := fun u => HoldFrame s u ∧ ∀ i, VendKept i s u) ⟨HoldFrame.refl s, fun i => VendKept.refl i s⟩
    fun u t _ hu => holdFrame_trans hu (holdFrame_releaseTarget u t)

/-- What the refusal of an UNBIND of slot k for t does before the slot's work ends. -/
def State.unbindRefused (s : State) (k t : SlotNo) (body : List Byte) : State :=
  (((s.respond k .refused (some .powerLow) body).modSlot k (fun sl => { sl with admin := none })).returnShare 1).releaseTarget t

theorem State.refuseWaiting_of {k t : SlotNo} (h : (s.slot k).admin = some ⟨some (.unbind t), .waiting⟩) :
    s.refuseWaiting k = (s.unbindRefused k t []).endWork k := by
  unfold State.refuseWaiting
  rw [h]
  rfl

theorem State.refuseWaiting_none {k : SlotNo} (h : ∀ t, (s.slot k).admin ≠ some ⟨some (.unbind t), .waiting⟩) :
    s.refuseWaiting k = s := by
  unfold State.refuseWaiting
  split
  · next t ht => exact absurd ht (h t)
  · rfl

theorem holdFrame_unbindRefused (s : State) (k t : SlotNo) (body : List Byte) :
    HoldFrame s (s.unbindRefused k t body) ∧ ∀ i, VendKept i s (s.unbindRefused k t body) :=
  holdFrame_trans (holdFrame_trans (holdFrame_trans (holdFrame_respond s k _ _ _) (holdFrame_admin _ k (.inl rfl)))
    (holdFrame_returnShare _ 1)) (holdFrame_releaseTarget _ t)

theorem holdFrame_refuseWaiting (s : State) (k : SlotNo) :
    HoldFrame s (s.refuseWaiting k) ∧ ∀ i, VendKept i s (s.refuseWaiting k) := by
  by_cases h : ∃ t, (s.slot k).admin = some ⟨some (.unbind t), .waiting⟩
  · obtain ⟨t, ht⟩ := h
    rw [State.refuseWaiting_of ht]
    exact holdFrame_trans (holdFrame_unbindRefused s k t []) (holdFrame_finishWork 8 _ k)
  · rw [State.refuseWaiting_none (fun t ht => h ⟨t, ht⟩)]
    exact ⟨HoldFrame.refl s, fun i => VendKept.refl i s⟩

theorem holdFrame_refuseAll (s : State) :
    HoldFrame s (slotList.foldl State.refuseWaiting s) ∧ ∀ i, VendKept i s (slotList.foldl State.refuseWaiting s) :=
  foldl_keeps (P := fun u => HoldFrame s u ∧ ∀ i, VendKept i s u) ⟨HoldFrame.refl s, fun i => VendKept.refl i s⟩
    fun u k _ hu => holdFrame_trans hu (holdFrame_refuseWaiting u k)

theorem State.warnStaging_of {e : Option EntryBody} {w : Bool} (h : (s.slot 0).admin = some ⟨e, .staging w⟩) :
    s.warnStaging = s.modSlot 0 (fun sl => { sl with admin := some ⟨e, .staging true⟩ }) := by
  unfold State.warnStaging
  rw [h]

theorem State.warnStaging_none (h : ∀ e w, (s.slot 0).admin ≠ some ⟨e, .staging w⟩) : s.warnStaging = s := by
  unfold State.warnStaging
  split
  · next e w hw => exact absurd hw (h e w)
  · rfl

/-- A KEY_LOAD in its stage write takes the warning as a change of its slot's admin operation alone. -/
theorem State.warnStaging_cases (s : State) :
    s.warnStaging = s ∨ ∃ a, s.warnStaging = s.modSlot 0 (fun sl => { sl with admin := a }) ∧ (s.slot 0).admin ≠ none := by
  by_cases h : ∃ e w, (s.slot 0).admin = some ⟨e, .staging w⟩
  · obtain ⟨e, w, hw⟩ := h
    exact .inr ⟨_, State.warnStaging_of hw, by rw [hw]; exact Option.some_ne_none _⟩
  · exact .inl (State.warnStaging_none (fun e w hw => h ⟨e, w, hw⟩))

/-- Outside STARTING, with a number left, the Journal's look begins an operation or nothing (R111, R117, R122). -/
theorem State.journalLook_begins (hpart : s.watch.part ≠ .starting) (hlast : s.journal.last ≠ 4294967295) :
    ∃ op tail, s.journalLook = { s with journal := { s.journal with op := op, tail := tail } } := by
  unfold State.journalLook
  split
  · split
    · unfold State.headLook
      split
      · rw [if_neg (by exact hlast)]
        exact ⟨_, _, rfl⟩
      · split
        · split
          · exact ⟨_, _, rfl⟩
          · exact ⟨_, _, rfl⟩
        · rw [if_neg hpart]
          exact ⟨_, _, rfl⟩
    · unfold State.triggerLook
      split
      · split
        · exact ⟨_, _, rfl⟩
        · exact ⟨_, _, rfl⟩
      · exact ⟨_, _, rfl⟩
  · exact ⟨_, _, rfl⟩

end

/-! ### What a supply warning leaves -/

/-- The UNBINDs that wait refused and the stage write warned, after the overtakings. -/
@[irreducible] def State.refuseWaiters (u : State) : State :=
  (slotList.foldl State.refuseWaiting u.releaseWaitedFor).warnStaging

theorem execSupplyWarning_running {s : State} (h : s.Running) :
    execSupplyWarning s = .next s.overtaken.refuseWaiters.journalLook := by
  have hpart : (s.setWarning true).watch.part = .run := h
  unfold execSupplyWarning State.overtaken State.refuseWaiters
  dsimp only
  rw [hpart]
  rfl

theorem State.refuseWaiters_cases (u : State) : ∃ w, (HoldFrame u w ∧ ∀ k, VendKept k u w) ∧
    (u.refuseWaiters = w ∨ ∃ a, u.refuseWaiters = w.modSlot 0 (fun sl => { sl with admin := a })) := by
  refine ⟨slotList.foldl State.refuseWaiting u.releaseWaitedFor,
    holdFrame_trans (holdFrame_releaseWaitedFor u) (holdFrame_refuseAll _), ?_⟩
  unfold State.refuseWaiters
  rcases State.warnStaging_cases (slotList.foldl State.refuseWaiting u.releaseWaitedFor) with h | ⟨a, h, -⟩
  · exact .inl h
  · exact .inr ⟨a, h⟩

theorem State.vendKept_refuseWaiters (u : State) (k : SlotNo) : VendKept k u u.refuseWaiters := by
  obtain ⟨w, ⟨-, hkept⟩, h | ⟨a, h⟩⟩ := u.refuseWaiters_cases
  · rw [h]
    exact hkept k
  · rw [h]
    exact (hkept k).trans (vendKept_modSlot w k 0 (fun _ => rfl))

/-- The blocks that a supply warning leaves alone (R168). -/
structure State.SameRecords (s t : State) : Prop where
  port   : t.port = s.port
  tariff : t.tariff = s.tariff
  work   : t.float.work = s.float.work
  nv     : t.float.nv = s.float.nv
  store  : t.journal.store = s.journal.store
  last   : t.journal.last = s.journal.last
  mark   : t.journal.mark = s.journal.mark

theorem HoldFrame.sameRecords {s t : State} (h : HoldFrame s t) : s.SameRecords t := by
  obtain ⟨-, hport, htariff, ⟨hwork, hnv⟩, ⟨hstore, hlast, hmark, -⟩, -, -⟩ := h
  exact ⟨hport, htariff, hwork, hnv, hstore, hlast, hmark⟩

theorem State.refuseWaiters_sameRecords (u : State) :
    u.SameRecords u.refuseWaiters ∧ u.refuseWaiters.watch = u.watch := by
  obtain ⟨w, ⟨hframe, -⟩, h | ⟨a, h⟩⟩ := u.refuseWaiters_cases
  · rw [h]
    exact ⟨hframe.sameRecords, hframe.watch⟩
  · rw [h]
    obtain ⟨hport, htariff, hwork, hnv, hstore, hlast, hmark⟩ := hframe.sameRecords
    exact ⟨⟨hport, htariff, hwork, hnv, hstore, hlast, hmark⟩, hframe.watch⟩

/-- A vend in ISSUING with none of its units in progress closes PARTIAL (R26, R30). -/
theorem State.overtaken_issuing {s : State} {k : SlotNo} {v : Vend} (hk : k ≠ 0) (h : s.IssuingAlone k v) :
    (s.overtaken.slot k).vend = some (v.closed .partly (some .powerLow)) ∧ s.overtaken.clock.channels[k] = none ∧
      v.endEntry k .partly (some .powerLow) ∈ s.overtaken.journal.queue := by
  unfold State.overtaken
  refine foldl_turn (f := fun u k => u.overtake k .powerLow) (before := fun u => u.IssuingAlone k v)
    (after := fun u => (u.slot k).vend = some (v.closed .partly (some .powerLow)) ∧ u.clock.channels[k] = none ∧
      v.endEntry k .partly (some .powerLow) ∈ u.journal.queue)
    (mem_searchOrder.mpr hk) (nodup_searchOrder _) h ?_ ?_ ?_
  · rintro u j hj ⟨hv, hphase, hp, hunit⟩
    obtain ⟨hvend, hunit', -, -⟩ := (holdFrame_overtake u j .powerLow).2 k hj.symm
    exact ⟨hvend.trans hv, hphase, hp, hunit' hunit⟩
  · intro u hu
    rw [State.overtake_alone_eq hu]
    exact ⟨congrArg Slot.vend (Vector.getElem_set_self k.isLt), u.clock.setChannel_same k none,
      List.mem_append_right _ (List.mem_singleton.mpr rfl)⟩
  · rintro u j hj ⟨hv, hchannel, hqueue⟩
    obtain ⟨hvend, -, hqueue', hchannel'⟩ := (holdFrame_overtake u j .powerLow).2 k hj.symm
    exact ⟨hvend.trans hv, hchannel' hchannel, hqueue' _ hqueue rfl⟩

/-- No UNBIND waits after the overtakings when none waited before. -/
theorem State.overtaken_unwaiting {s : State} (h : ∀ k t : SlotNo, (s.slot k).admin ≠ some ⟨some (.unbind t), .waiting⟩)
    (k t : SlotNo) : (s.overtaken.slot k).admin ≠ some ⟨some (.unbind t), .waiting⟩ := by
  intro hw
  rcases (holdFrame_overtaken s).admin k with he | he | ⟨m, he⟩
  · exact h k t (he.symm.trans hw)
  · cases he.symm.trans hw
  · cases he.symm.trans hw

theorem Slot.waitsFor_eq_some {x : Slot} {t : SlotNo} : x.waitsFor = some t ↔ x.admin = some ⟨some (.unbind t), .waiting⟩ := by
  unfold Slot.waitsFor
  split
  · next m hm => simp [hm]
  · next h => exact ⟨fun he => (by cases he), fun he => absurd he (h t)⟩

/-- With no UNBIND that waits nothing is refused. -/
theorem State.refuseWaiters_unwaiting {u : State} (h : ∀ k t : SlotNo, (u.slot k).admin ≠ some ⟨some (.unbind t), .waiting⟩) :
    u.refuseWaiters = u.warnStaging := by
  have hrelease : u.releaseWaitedFor = u := by
    unfold State.releaseWaitedFor
    have hlist : slotList.filterMap (fun k => (u.slot k).waitsFor) = [] := by
      rw [List.filterMap_eq_nil_iff]
      intro k _
      rw [Option.eq_none_iff_forall_ne_some]
      exact fun t ht => h k t (Slot.waitsFor_eq_some.mp ht)
    rw [hlist]
    rfl
  have hrefuse : slotList.foldl State.refuseWaiting u = u :=
    foldl_keeps (P := fun w => w = u) rfl fun w k _ hw => by
      rw [hw]
      exact State.refuseWaiting_none (h k)
  unfold State.refuseWaiters
  rw [hrelease, hrefuse]

/-- The overtakings leave slot 0, which vends nothing, when no work is waited for by its UNBIND. -/
theorem State.overtaken_slot_zero {s : State} (h : s.UnawaitedBy 0) : s.overtaken.slot 0 = s.slot 0 := by
  unfold State.overtaken
  have hkeep := foldl_keeps (f := fun u k => State.overtake u k .powerLow) (l := searchOrder s.engine.position)
    (P := fun u => u.slot 0 = s.slot 0 ∧ u.UnawaitedBy 0) (s := s.heldUp) ⟨rfl, h⟩ (fun u k hk hu => by
      obtain ⟨hslot, hfree⟩ := hu
      exact ⟨(State.overtake_slot_other (mem_searchOrder.mp hk) .powerLow (.inl hfree)).trans hslot,
        (holdFrame_overtake u k .powerLow).1.unawaited hfree⟩)
  exact hkeep.1

end Sys2Proof.Machine
end

section
/-! PROOFS. The UNBINDs that wait when the supply warning comes, and the obligation on warnings and HOLDUP
(R26, R30, R149, R166, R168, R170, R178, R180). -/

namespace Sys2Proof.Machine

/-! ### FAILED mode on a coherent part -/

/-- In FAILED mode every vend in flight has its unit in APPLYING, or an ending pending. -/
def State.VendsApply (u : State) : Prop := ∀ k v, (u.slot k).vend = some v → v.pendingEnding = none →
  v.phase = .issuing ∧ ∃ x, u.engine.unitOf k = some x ∧ x.stage ≠ .forming

theorem State.RunCoherent.vendsApply {s : State} (h : s.RunCoherent) (hmode : s.journal.mode = .failed) :
    s.VendsApply := by
  intro k v hv _
  have happlying := (h.vends k v hv).failed hmode
  have hunit := h.unit
  unfold Engine.applying at happlying
  unfold State.UnitCoherent at hunit
  cases hu : s.engine.unit with
  | none =>
    rw [hu] at happlying
    cases happlying
  | some x =>
    rw [hu] at happlying hunit
    obtain ⟨hslot, hstage⟩ := Bool.and_eq_true_iff.mp happlying
    have hslot := beq_iff_eq.mp hslot
    have hstage := beq_iff_eq.mp hstage
    have hlive : x.discarded = false := by
      cases hd : x.discarded with
      | false => rfl
      | true =>
        dsimp only at hunit
        rw [if_pos hd] at hunit
        cases hstage.symm.trans hunit.1
    dsimp only at hunit
    rw [if_neg (by rw [hlive]; exact Bool.false_ne_true)] at hunit
    obtain ⟨⟨w, hw, hphase⟩, -⟩ := hunit
    rw [hslot] at hw
    cases hv.symm.trans hw
    exact ⟨hphase, x, Engine.unitOf_eq_some.mpr ⟨hu, hslot, hlive⟩, by rw [hstage]; decide⟩

/-- Then an overtaking leaves all but the vend's pending ending. -/
theorem State.VendsApply.overtake {u : State} (h : u.VendsApply) (i : SlotNo) (r : Reason) :
    u.overtake i r = u ∨ ∃ v, v.pendingEnding = some r ∧ u.overtake i r = u.modSlot i (fun sl => { sl with vend := some v }) := by
  cases hv : (u.slot i).vend with
  | none =>
    refine .inl ?_
    unfold State.overtake
    rw [hv]
  | some v =>
    by_cases hp : v.pendingEnding = none
    · obtain ⟨hphase, x, hx, hstage⟩ := h i v hv hp
      exact .inr ⟨_, rfl, State.overtake_unit_pending hv hp hphase hx hstage⟩
    · exact .inl (State.overtake_ended hv (.inl hp))

theorem State.VendsApply.step {u : State} (h : u.VendsApply) (i : SlotNo) (r : Reason) : (u.overtake i r).VendsApply := by
  rcases h.overtake i r with he | ⟨v, hp, he⟩
  · rw [he]
    exact h
  · rw [he]
    intro k w hw hwp
    by_cases hk : k = i
    · rw [hk, State.modSlot_slot_same] at hw
      cases hw
      cases hp.symm.trans hwp
    · rw [State.modSlot_slot_other _ _ hk] at hw
      exact h k w hw hwp

/-! ### An UNBIND that waits -/

section
variable {s : State} {j t : SlotNo} {c q : Byte}

/-- Slot j's UNBIND waits for slot t, whose work is overtaken already or is an admin request's (R149). -/
structure State.WaitsFor (s : State) (j t : SlotNo) (c q : Byte) : Prop where
  other   : j ≠ t
  vend    : (s.slot j).vend = none
  admin   : (s.slot j).admin = some ⟨some (.unbind t), .waiting⟩
  hand    : (s.slot j).inHand = some (c, q)
  unmarked : (s.slot j).pendingChange = none

/-- Slot j's UNBIND of t while the vends are overtaken. -/
structure State.WaitKept (s u : State) (j t : SlotNo) : Prop where
  slot  : u.slot j = s.slot j
  marks : ∀ m : SlotNo, (u.slot m).pendingChange = some (.unbindBy j) → m = t
  ended : ∀ v, (u.slot t).vend = some v → v.phase = .closing ∨ v.pendingEnding ≠ none
  mode  : u.journal.mode = .normal ∨ u.VendsApply

theorem State.WaitKept.overtake {u : State} (hs : s.WaitsFor j t c q) (h : s.WaitKept u j t) (i : SlotNo) (r : Reason) :
    s.WaitKept (u.overtake i r) j t := by
  have same : u.overtake i r = u → s.WaitKept (u.overtake i r) j t := fun he => by rw [he]; exact h
  by_cases hit : i = t
  · subst hit
    refine same ?_
    cases hv : (u.slot i).vend with
    | none =>
      unfold State.overtake
      rw [hv]
    | some v => exact State.overtake_ended hv (h.ended v hv).symm
  by_cases hij : i = j
  · subst hij
    refine same ?_
    have hv : (u.slot i).vend = none := by rw [h.slot, hs.vend]
    unfold State.overtake
    rw [hv]
  · obtain ⟨hframe, hkept⟩ := holdFrame_overtake u i r
    have marks : ∀ m : SlotNo, ((u.overtake i r).slot m).pendingChange = some (.unbindBy j) → m = t := by
      intro m hm
      rcases hframe.pending m with he | he
      · exact h.marks m (he.symm.trans hm)
      · cases he.symm.trans hm
    have ended : ∀ v, ((u.overtake i r).slot t).vend = some v → v.phase = .closing ∨ v.pendingEnding ≠ none := by
      intro v hv
      rw [(hkept t (Ne.symm hit)).vend] at hv
      exact h.ended v hv
    rcases h.mode with hnormal | happly
    · obtain ⟨-, -, -, hmode⟩ := hframe.store
      refine ⟨?_, marks, ended, .inl (hmode.trans hnormal)⟩
      rw [State.overtake_slot_other hij r (.inr ⟨hnormal, fun hm => hit (h.marks i hm)⟩), h.slot]
    · refine ⟨?_, marks, ended, .inr (happly.step i r)⟩
      rcases happly.overtake i r with he | ⟨v, -, he⟩
      · rw [he, h.slot]
      · rw [he, State.modSlot_slot_other _ _ (Ne.symm hij), h.slot]

theorem State.WaitKept.overtaken (hs : s.WaitsFor j t c q) (h : s.WaitKept s.heldUp j t) : s.WaitKept s.overtaken j t := by
  unfold State.overtaken
  exact foldl_keeps (P := fun u => s.WaitKept u j t) h fun u i _ hu => hu.overtake hs i .powerLow

/-! ### Its refusal -/

/-- An UNBIND's mark on a slot goes with no other change of a slot that has work. -/
theorem State.releaseTarget_slot_kept {u : State} {i k : SlotNo} (hsteady : (u.slot k).Steady)
    (hnone : (u.slot k).pendingChange = none) : (u.releaseTarget i).slot k = u.slot k := by
  rcases State.releaseClaims_slot (s := u) (k := k) (.unbind i) hsteady with h | h
  · exact h
  · exact h.trans (by rw [← hnone])

/-- Slot j's UNBIND before its refusal: slot t has lost its mark, and no work is waited for by it. -/
structure State.WaitFreed (s u : State) (j t : SlotNo) : Prop where
  slot  : u.slot j = s.slot j
  free  : u.UnawaitedBy j
  mark  : (u.slot t).pendingChange = none

/-- Slot j's UNBIND refused POWER_LOW. -/
structure State.WaitRefused (s u : State) (j t : SlotNo) (c q : Byte) : Prop where
  slot  : u.slot j = { s.slot j with
    admin := none, state := .idle, inHand := none, held := some (responseFrame c q .refused (some .powerLow) []) }
  free  : u.UnawaitedBy j
  mark  : (u.slot t).pendingChange = none

theorem HoldFrame.mark_none {u w : State} (h : HoldFrame u w) (hm : (u.slot t).pendingChange = none) :
    (w.slot t).pendingChange = none := (h.pending t).elim (fun e => e.trans hm) id

theorem State.WaitKept.released {u : State} (hs : s.WaitsFor j t c q) (h : s.WaitKept u j t) :
    s.WaitFreed u.releaseWaitedFor j t := by
  have hadmin : (u.slot j).admin = some ⟨some (.unbind t), .waiting⟩ := by rw [h.slot, hs.admin]
  have hkeep : (u.releaseWaitedFor).slot j = s.slot j ∧ HoldFrame u u.releaseWaitedFor := by
    refine ⟨?_, (holdFrame_releaseWaitedFor u).1⟩
    refine foldl_keeps (P := fun w => w.slot j = s.slot j) h.slot fun w i _ hw => ?_
    rw [State.releaseTarget_slot_kept (by rw [hw, ← h.slot]; exact .inr (.inl (by rw [hadmin]; exact Option.some_ne_none _)))
      (by rw [hw]; exact hs.unmarked), hw]
  have hmark : (u.releaseWaitedFor.slot t).pendingChange = none := by
    have hmem : t ∈ slotList.filterMap (fun k => (u.slot k).waitsFor) :=
      List.mem_filterMap.mpr ⟨j, mem_slotList j, Slot.waitsFor_eq_some.mpr hadmin⟩
    obtain ⟨l, r, hlist⟩ := List.append_of_mem hmem
    unfold State.releaseWaitedFor
    rw [hlist, List.foldl_append, List.foldl_cons]
    exact foldl_keeps (P := fun w => (w.slot t).pendingChange = none) ((State.releaseTarget_slot _ t).1)
      fun w i _ hw => (holdFrame_releaseTarget w i).1.mark_none hw
  refine ⟨hkeep.1, fun m hm => ?_, hmark⟩
  rcases hkeep.2.pending m with he | he
  · have hmt := h.marks m (he.symm.trans hm)
    rw [hmt, hmark] at hm
    cases hm
  · cases he.symm.trans hm

/-- The refusal of another slot's UNBIND leaves slot j, for whose UNBIND no work is waited. -/
theorem State.refuseWaiting_slot_other {u : State} {i : SlotNo} (hij : i ≠ j) (hsteady : (u.slot j).Steady)
    (hnone : (u.slot j).pendingChange = none) (hfree : u.UnawaitedBy j) : (u.refuseWaiting i).slot j = u.slot j := by
  by_cases h : ∃ x, (u.slot i).admin = some ⟨some (.unbind x), .waiting⟩
  · obtain ⟨x, hx⟩ := h
    rw [State.refuseWaiting_of hx,
      State.endWork_slot_other hij (.inl ((holdFrame_unbindRefused u i x []).1.unawaited hfree))]
    have hbase : (((u.respond i .refused (some .powerLow) []).modSlot i (fun sl => { sl with admin := none })).returnShare
        1).slot j = u.slot j := by
      rw [State.returnShare_slot, State.modSlot_slot_other _ _ hij.symm, State.respond_slot_other _ hij.symm]
    exact (State.releaseTarget_slot_kept (by rw [hbase]; exact hsteady) (by rw [hbase]; exact hnone)).trans hbase
  · rw [State.refuseWaiting_none (fun x hx => h ⟨x, hx⟩)]

theorem State.WaitFreed.turn {u : State} (hs : s.WaitsFor j t c q) (h : s.WaitFreed u j t) :
    s.WaitRefused (u.refuseWaiting j) j t c q := by
  have hadmin : (u.slot j).admin = some ⟨some (.unbind t), .waiting⟩ := by rw [h.slot, hs.admin]
  have hhand : (u.slot j).inHand = some (c, q) := by rw [h.slot, hs.hand]
  have hnone : (u.slot j).pendingChange = none := by rw [h.slot, hs.unmarked]
  obtain ⟨hframe, -⟩ := holdFrame_refuseWaiting u j
  refine ⟨?_, hframe.unawaited h.free, hframe.mark_none h.mark⟩
  have hslot : (u.unbindRefused j t []).slot j = { u.slot j with
      admin := none, held := some (responseFrame c q .refused (some .powerLow) []) } := by
    unfold State.unbindRefused
    rw [State.respond_eq hhand, State.modSlot_modSlot]
    refine (State.modSlot_slot_other _ _ hs.other).trans ?_
    rw [State.returnShare_slot, State.modSlot_slot_same]
  rw [State.refuseWaiting_of hadmin, State.endWork_of_none (by rw [hslot]; exact hnone), State.modSlot_slot_same, hslot, h.slot]

theorem State.WaitFreed.refused {u : State} (hs : s.WaitsFor j t c q) (h : s.WaitFreed u j t) :
    s.WaitRefused (slotList.foldl State.refuseWaiting u) j t c q := by
  refine foldl_turn (before := fun w => s.WaitFreed w j t) (after := fun w => s.WaitRefused w j t c q) (mem_slotList j)
    nodup_slotList h (fun w i hij hw => ?_) (fun w hw => hw.turn hs) (fun w i hij hw => ?_)
  · obtain ⟨hframe, -⟩ := holdFrame_refuseWaiting w i
    refine ⟨?_, hframe.unawaited hw.free, hframe.mark_none hw.mark⟩
    rw [State.refuseWaiting_slot_other hij
      (by rw [hw.slot]; exact .inr (.inl (by rw [hs.admin]; exact Option.some_ne_none _)))
      (by rw [hw.slot]; exact hs.unmarked) hw.free, hw.slot]
  · obtain ⟨hframe, -⟩ := holdFrame_refuseWaiting w i
    refine ⟨?_, hframe.unawaited hw.free, hframe.mark_none hw.mark⟩
    rw [State.refuseWaiting_slot_other hij (by rw [hw.slot]; exact .inr (.inr ⟨rfl, rfl⟩))
      (by rw [hw.slot]; exact hs.unmarked) hw.free, hw.slot]

theorem State.WaitRefused.warned {u : State} (h : s.WaitRefused u j t c q) : s.WaitRefused u.warnStaging j t c q := by
  rcases State.warnStaging_cases u with he | ⟨a, he, ha⟩
  · rw [he]
    exact h
  · have hj : j ≠ 0 := fun e => ha (by rw [← e, h.slot])
    have hframe : ∀ m, ((u.modSlot 0 (fun sl => { sl with admin := a })).slot m).pendingChange =
        (u.slot m).pendingChange := State.modSlot_field Slot.pendingChange u 0 _ rfl
    rw [he]
    exact ⟨by rw [State.modSlot_slot_other _ _ hj, h.slot], fun m hm => h.free m ((hframe m).symm.trans hm),
      (hframe t).trans h.mark⟩

theorem State.WaitKept.refused {u : State} (hs : s.WaitsFor j t c q) (h : s.WaitKept u j t) :
    s.WaitRefused u.refuseWaiters j t c q := by
  unfold State.refuseWaiters
  exact ((h.released hs).refused hs).warned

end

/-! ### The obligation -/

theorem execSupplyWarning_outside {s : State} (h : ¬ s.Running) :
    execSupplyWarning s = .next { s with watch := { s.watch with warning := true } } := by
  have hpart : s.watch.part ≠ .run := h
  unfold execSupplyWarning State.setWarning
  dsimp only
  cases hp : s.watch.part with
  | run => exact absurd hp hpart
  | holdup => rfl
  | starting => rfl

theorem execWarningClear_run {s : State} (h : s.watch.part = .run) :
    execWarningClear s = .next { s with watch := { s.watch with warning := false } } := by
  unfold execWarningClear State.setWarning
  dsimp only
  rw [h]

theorem execWarningClear_holdup {s : State} (h : s.watch.part = .holdup) : execWarningClear s = .next (State.proceed { s with
    watch := { s.watch with warning := false, part := if s.journal.queue = [] then .run else .holdup } }) := by
  unfold execWarningClear State.setWarning State.returnToRun
  dsimp only
  rw [h]
  by_cases hq : s.journal.queue = []
  · rw [if_pos hq, if_pos ⟨rfl, rfl, hq⟩]
    rfl
  · rw [if_neg hq, if_neg (fun hc => hq hc.2.2)]

theorem execWarningClear_starting {s : State} (h : s.watch.part = .starting) :
    execWarningClear s = .next (State.proceed { s with
      watch := { s.watch with warning := false, part := if s.watch.scan.stage = .ended then .run else .starting } }) := by
  unfold execWarningClear State.setWarning State.leaveStarting
  dsimp only
  rw [h]
  by_cases hst : s.watch.scan.stage = .ended
  · rw [if_pos hst, if_pos ⟨rfl, hst⟩]
    rfl
  · rw [if_neg hst, if_neg (fun hc => hst hc.2)]

/-- What a supply warning in RUN leaves when a journal number is left: the watch, the records, the store, and every vend
that closes PARTIAL. -/
theorem State.warned_keeps {s : State} (hlast : s.journal.last ≠ 4294967295) :
    ∃ op tail, s.overtaken.refuseWaiters.journalLook = { s.overtaken.refuseWaiters with
      journal := { s.overtaken.refuseWaiters.journal with op := op, tail := tail } } := by
  obtain ⟨hrecords, hwatch⟩ := s.overtaken.refuseWaiters_sameRecords
  have hframe := holdFrame_overtaken s
  refine State.journalLook_begins ?_ ?_
  · rw [hwatch, hframe.watch]
    exact fun h => nomatch h
  · rw [hrecords.last, hframe.sameRecords.last]
    exact hlast

/-- Settles O51. -/
theorem warningsAndHoldup : Obligations.WarningsAndHoldup := by
  refine ⟨fun s hrun hlast => ⟨_, execSupplyWarning_running hrun, ?_⟩, fun s hrun hwait hstaging => ?_,
    fun s u e w hrun hwait hstaging hfree hu => ?_,
    fun s j t c q hrun hmode hlast hjt hv ha hhand hnone hmarks hended => ⟨_, execSupplyWarning_running hrun, ?_⟩,
    fun s hrun => execSupplyWarning_outside hrun,
    fun s => ⟨execWarningClear_run, execWarningClear_holdup, execWarningClear_starting⟩⟩
  · obtain ⟨op, tail, hlook⟩ := State.warned_keeps hlast
    obtain ⟨hrecords, hwatch⟩ := s.overtaken.refuseWaiters_sameRecords
    have hframe := holdFrame_overtaken s
    obtain ⟨hport, htariff, hwork, hnv, hstore, hlast', hmark⟩ := hframe.sameRecords
    rw [hlook]
    refine ⟨hwatch.trans hframe.watch, hrecords.port.trans hport, hrecords.tariff.trans htariff,
      hrecords.work.trans hwork, hrecords.nv.trans hnv, hrecords.store.trans hstore, hrecords.last.trans hlast',
      hrecords.mark.trans hmark, fun k v hk hissuing => ?_⟩
    obtain ⟨hv, hchannel, hqueue⟩ := State.overtaken_issuing hk hissuing
    have hkept := s.overtaken.vendKept_refuseWaiters k
    exact ⟨hkept.vend.trans hv, hkept.channel hchannel, hkept.queue _ hqueue rfl⟩
  · have hadmin : ∀ e w, (s.overtaken.slot 0).admin ≠ some ⟨e, .staging w⟩ := by
      intro e w hw
      rcases (holdFrame_overtaken s).admin 0 with he | he | ⟨m, he⟩
      · exact hstaging e w (he.symm.trans hw)
      · cases he.symm.trans hw
      · cases he.symm.trans hw
    have hexec := execSupplyWarning_running hrun
    rw [State.refuseWaiters_unwaiting (State.overtaken_unwaiting hwait), State.warnStaging_none hadmin, State.overtaken] at hexec
    exact hexec
  · have hslot := State.overtaken_slot_zero hfree
    have hexec := execSupplyWarning_running hrun
    rw [State.refuseWaiters_unwaiting (State.overtaken_unwaiting hwait),
      State.warnStaging_of (e := e) (w := w) (by rw [hslot]; exact hstaging)] at hexec
    have hueq : u = s.overtaken := by
      rw [hu, State.overtaken]
      rfl
    rw [hueq]
    exact hexec
  · have hwaits : s.WaitsFor j t c q := ⟨hjt, hv, ha, hhand, hnone⟩
    have happly : s.journal.mode = .normal ∨ s.VendsApply := by
      cases hm : s.journal.mode with
      | normal => exact .inl rfl
      | failed =>
        refine .inr ((State.Coherent.run (hmode.resolve_left (fun h => ?_)) ?_).vendsApply hm)
        · cases hm.symm.trans h
        · rw [hrun]
          exact fun h => nomatch h
    have hkept : s.WaitKept s.heldUp j t := ⟨rfl, hmarks, hended, happly⟩
    obtain ⟨hslot, -, hmark⟩ := (hkept.overtaken hwaits).refused hwaits
    obtain ⟨op, tail, hlook⟩ := State.warned_keeps hlast
    rw [hlook]
    refine ⟨(congrArg Slot.admin hslot), (congrArg Slot.state hslot), (congrArg Slot.held hslot), hmark⟩

end Sys2Proof.Machine
end

section
/-! PROOFS. The scan's first two steps: the highest entry, its trail, the part-erased pages (R173, R174). -/

namespace Sys2Proof.Machine

/-! ### Runs of a list of addresses -/

theorem mem_takeWhile_range' {P : Nat → Bool} {s n a : Nat} :
    a ∈ (List.range' s n).takeWhile P ↔ s ≤ a ∧ a < s + n ∧ ∀ b, s ≤ b → b ≤ a → P b = true := by
  induction n generalizing s with
  | zero =>
    simp only [List.range'_zero, List.takeWhile_nil, List.not_mem_nil, false_iff]
    omega
  | succ n ih =>
    rw [List.range'_succ, List.takeWhile_cons]
    by_cases hs : P s = true
    · rw [if_pos hs, List.mem_cons, ih]
      constructor
      · rintro (rfl | ⟨h1, h2, h3⟩)
        · exact ⟨Nat.le_refl a, by omega, fun b h1 h2 => Nat.le_antisymm h2 h1 ▸ hs⟩
        · refine ⟨by omega, by omega, fun b hb1 hb2 => ?_⟩
          rcases Nat.eq_or_lt_of_le hb1 with rfl | hlt
          · exact hs
          · exact h3 b hlt hb2
      · rintro ⟨h1, h2, h3⟩
        rcases Nat.eq_or_lt_of_le h1 with rfl | hlt
        · exact .inl rfl
        · exact .inr ⟨hlt, by omega, fun b hb1 hb2 => h3 b (by omega) hb2⟩
    · rw [if_neg hs]
      simp only [List.not_mem_nil, false_iff]
      rintro ⟨h1, h2, h3⟩
      exact hs (h3 s (Nat.le_refl s) h1)

section
variable {j : Journal}

theorem Journal.torn_iff (j : Journal) (a : Nat) :
    j.torn a = true ↔ j.content a = some .void ∨ j.content a = some .halfWritten := by
  unfold Journal.torn
  split
  · next h => simp [h]
  · next h => simp [h]
  · next e h => simp [h]
  · next h => simp [h]

theorem Journal.tornRun_eq (j : Journal) (p offset : Nat) : j.tornRun p offset =
    ((List.range' offset (32 - offset)).takeWhile (fun i => j.torn (p * 32 + i))).map (fun i => p * 32 + i) := by
  rw [Journal.tornRun, List.takeWhile_map]
  rfl

/-- The run from an offset of a page: the torn entry slots before the first that is not torn. -/
theorem Journal.mem_tornRun {p offset a : Nat} (ho : offset ≤ 32) : a ∈ j.tornRun p offset ↔
    a / 32 = p ∧ p * 32 + offset ≤ a ∧ ∀ b, p * 32 + offset ≤ b → b ≤ a → j.torn b = true := by
  rw [Journal.tornRun_eq, List.mem_map]
  constructor
  · rintro ⟨i, hi, rfl⟩
    obtain ⟨h1, h2, h3⟩ := mem_takeWhile_range'.mp hi
    refine ⟨by omega, by omega, fun b hb1 hb2 => ?_⟩
    have hb := h3 (b - p * 32) (by omega) (by omega)
    rwa [Nat.add_sub_cancel' (by omega)] at hb
  · rintro ⟨hp, h1, h2⟩
    refine ⟨a - p * 32, mem_takeWhile_range'.mpr ⟨by omega, by omega, fun b hb1 hb2 => ?_⟩, by omega⟩
    exact h2 (p * 32 + b) (by omega) (by omega)

theorem Journal.tornRun_nodup (j : Journal) (p offset : Nat) : (j.tornRun p offset).Nodup := by
  rw [Journal.tornRun_eq]
  refine List.Nodup.map (fun a b h => Nat.add_left_cancel h) ?_
  exact (List.takeWhile_sublist _).nodup List.nodup_range'

/-- A run reaches the end of its page when its length says so. -/
theorem Journal.tornRun_whole {p offset : Nat} (ho : offset ≤ 32) : offset + (j.tornRun p offset).length = 32 ↔
    ∀ a, a / 32 = p → p * 32 + offset ≤ a → a ∈ j.tornRun p offset := by
  have hlen : (j.tornRun p offset).length = ((List.range' offset (32 - offset)).takeWhile
      (fun i => j.torn (p * 32 + i))).length := by rw [Journal.tornRun_eq, List.length_map]
  constructor
  · intro h a hp ha
    have hall : (List.range' offset (32 - offset)).takeWhile (fun i => j.torn (p * 32 + i)) =
        List.range' offset (32 - offset) := by
      refine (List.takeWhile_prefix _).eq_of_length ?_
      rw [List.length_range']
      omega
    rw [Journal.tornRun_eq, hall, List.mem_map]
    exact ⟨a - p * 32, List.mem_range'_1.mpr ⟨by omega, by omega⟩, by omega⟩
  · intro h
    have hsub : (List.range' offset (32 - offset)).map (fun i => p * 32 + i) ⊆ j.tornRun p offset := by
      intro a ha
      obtain ⟨i, hi, rfl⟩ := List.mem_map.mp ha
      have hi := List.mem_range'_1.mp hi
      exact h _ (by omega) (by omega)
    have hnodup : ((List.range' offset (32 - offset)).map (fun i => p * 32 + i)).Nodup :=
      List.Nodup.map (fun a b h => Nat.add_left_cancel h) List.nodup_range'
    have hle := (hnodup.subperm hsub).length_le
    have hge := (List.takeWhile_sublist (l := List.range' offset (32 - offset)) (fun i => j.torn (p * 32 + i))).length_le
    rw [List.length_map, List.length_range'] at hle
    rw [List.length_range'] at hge
    omega

/-! ### The entry slots of a page -/

variable (hrising : Rising (j.store.map (·.1)))
include hrising

/-- The entry slots of a page that are not blank, by address. -/
theorem Journal.pageKeys_nodup (p : Nat) : ((j.pageCells p).map (·.1)).Nodup :=
  List.Pairwise.imp Nat.ne_of_lt (filter_rising hrising _)

omit hrising in
theorem Journal.mem_pageKeys {p a : Nat} : a ∈ (j.pageCells p).map (·.1) ↔ a / 32 = p ∧ j.content a ≠ none := by
  rw [Ne, Journal.content_eq_none, List.mem_map]
  simp only [ne_eq, not_forall, not_not]
  constructor
  · rintro ⟨c, hc, rfl⟩
    obtain ⟨hmem, hp⟩ := Journal.mem_pageCells.mp hc
    exact ⟨hp, c, hmem, rfl⟩
  · rintro ⟨hp, c, hc, rfl⟩
    exact ⟨c, Journal.mem_pageCells.mpr ⟨hc, hp⟩, rfl⟩

omit hrising in
theorem Journal.tornRun_subset (j : Journal) (p : Nat) : j.tornRun p 0 ⊆ (j.pageCells p).map (·.1) := by
  intro a ha
  obtain ⟨hp, hle, htorn⟩ := (Journal.mem_tornRun (Nat.zero_le 32)).mp ha
  refine Journal.mem_pageKeys.mpr ⟨hp, fun hnone => ?_⟩
  have h := (j.torn_iff a).mp (htorn a hle (Nat.le_refl a))
  rw [hnone] at h
  rcases h with h | h <;> cases h

/-- A page holds trail slots only when every later entry slot of it is blank: its run is all it holds (R173). -/
theorem Journal.tornRun_all {p : Nat} : (j.tornRun p 0).length = (j.pageSlots p).length ↔
    ∀ a, a / 32 = p → j.content a ≠ none → a ∈ j.tornRun p 0 := by
  have hlen : (j.pageSlots p).length = ((j.pageCells p).map (·.1)).length := by
    rw [Journal.pageSlots_length, List.length_map]
  have hsub := (j.tornRun_nodup p 0).subperm (j.tornRun_subset p)
  rw [hlen]
  constructor
  · intro h a hp ha
    have hperm := hsub.perm_of_length_le (Nat.le_of_eq h.symm)
    exact hperm.mem_iff.mpr (Journal.mem_pageKeys.mpr ⟨hp, ha⟩)
  · intro h
    refine Nat.le_antisymm hsub.length_le ?_
    refine ((Journal.pageKeys_nodup hrising p).subperm fun a ha => ?_).length_le
    obtain ⟨hp, hne⟩ := Journal.mem_pageKeys.mp ha
    exact h a hp hne

end

end Sys2Proof.Machine
end

section
/-! PROOFS. The trail after the highest entry, the tail, and the part-erased pages (R173, R174). -/

namespace Sys2Proof.Machine

/-! ### The highest entry -/

/-- The better of two written entry slots: the one with the higher number. -/
def higherEntry (best : Option (Nat × Entry)) (c : Nat × Entry) : Option (Nat × Entry) :=
  match best with
  | none => some c
  | some b => if b.2.number < c.2.number then some c else some b

theorem foldl_higherEntry (l : List (Nat × Entry)) (best : Option (Nat × Entry)) :
    (l.foldl higherEntry best = none → best = none ∧ l = []) ∧
      ∀ b, l.foldl higherEntry best = some b → (best = some b ∨ b ∈ l) ∧
        (∀ c, best = some c → c.2.number ≤ b.2.number) ∧ ∀ c ∈ l, c.2.number ≤ b.2.number := by
  induction l generalizing best with
  | nil =>
    refine ⟨fun h => ⟨h, rfl⟩, fun b h => ⟨.inl h, fun c hc => ?_, fun c hc => absurd hc List.not_mem_nil⟩⟩
    cases hc.symm.trans h
    exact Nat.le_refl _
  | cons x l ih =>
    obtain ⟨hnone, hsome⟩ := ih (higherEntry best x)
    have hbetter : ∃ m, higherEntry best x = some m ∧ (best = some m ∨ m = x) ∧ x.2.number ≤ m.2.number ∧
        ∀ c, best = some c → c.2.number ≤ m.2.number := by
      unfold higherEntry
      cases best with
      | none => exact ⟨x, rfl, .inr rfl, Nat.le_refl _, fun c hc => by cases hc⟩
      | some b =>
        dsimp only
        split
        · next hlt =>
          refine ⟨x, rfl, .inr rfl, Nat.le_refl _, fun c hc => ?_⟩
          cases hc
          exact Nat.le_of_lt hlt
        · next hlt =>
          refine ⟨b, rfl, .inl rfl, Nat.not_lt.mp hlt, fun c hc => ?_⟩
          cases hc
          exact Nat.le_refl _
    obtain ⟨m, hm, hfrom, hx, hbest⟩ := hbetter
    refine ⟨fun h => ?_, fun b h => ?_⟩
    · cases hm.symm.trans (hnone h).1
    · obtain ⟨hmem, hle, hall⟩ := hsome b h
      have hmb := hle m hm
      refine ⟨?_, fun c hc => Nat.le_trans (hbest c hc) hmb, fun c hc => ?_⟩
      · rcases hmem with he | hmem
        · obtain rfl : b = m := Option.some.inj (he.symm.trans hm)
          rcases hfrom with hfrom | rfl
          · exact .inl hfrom
          · exact .inr List.mem_cons_self
        · exact .inr (List.mem_cons_of_mem x hmem)
      · rcases List.mem_cons.mp hc with rfl | hc
        · exact Nat.le_trans hx hmb
        · exact hall c hc

section
variable {j : Journal}

theorem Journal.mem_written (hrising : Rising (j.store.map (·.1))) {a : Nat} {e : Entry} :
    (a, e) ∈ j.written ↔ j.content a = some (.written e) := by
  rw [Journal.content_eq_written hrising]
  simp only [Journal.written, judgedSlots, List.mem_filterMap, List.mem_map]
  constructor
  · rintro ⟨_, ⟨c, hc, rfl⟩, h⟩
    dsimp only at h
    split at h
    · next f hf =>
      cases h
      exact ⟨c.2, hc, hf⟩
    · cases h
    · cases h
  · rintro ⟨c, hc, h⟩
    exact ⟨(a, c.judged), ⟨(a, c), hc, rfl⟩, by rw [h]⟩

theorem Journal.highest_eq (j : Journal) : j.highest = j.written.foldl higherEntry none := rfl

theorem Journal.highest_some (hrising : Rising (j.store.map (·.1))) {h : Nat} {e : Entry} (hh : j.highest = some (h, e)) :
    j.content h = some (.written e) ∧ ∀ b f, j.content b = some (.written f) → f.number ≤ e.number := by
  rw [Journal.highest_eq] at hh
  obtain ⟨hmem, -, hall⟩ := (foldl_higherEntry j.written none).2 _ hh
  refine ⟨(Journal.mem_written hrising).mp (hmem.resolve_left (by simp)), fun b f hb => ?_⟩
  exact hall _ ((Journal.mem_written hrising).mpr hb)

theorem Journal.highest_none (hrising : Rising (j.store.map (·.1))) (hh : j.highest = none) (b : Nat) (f : Entry) :
    j.content b ≠ some (.written f) := by
  intro hb
  rw [Journal.highest_eq] at hh
  have hnil := ((foldl_higherEntry j.written none).1 hh).2
  have hmem := (Journal.mem_written hrising).mpr hb
  rw [hnil] at hmem
  cases hmem

/-! ### The trail -/

/-- A page whose entry slots that are not blank are all in its run of torn ones. -/
def Journal.TornPage (j : Journal) (p : Nat) : Prop := ∀ a, a / 32 = p → j.content a ≠ none → a ∈ j.tornRun p 0

theorem Journal.trailPages_succ (hrising : Rising (j.store.map (·.1))) (fuel p : Nat) :
    (¬ j.TornPage p → j.trailPages (fuel + 1) p = []) ∧
      (j.TornPage p → j.trailPages (fuel + 1) p = j.tornRun p 0 ++
        if (j.tornRun p 0).length = 32 then j.trailPages fuel (j.nextPage p) else []) := by
  have hall := Journal.tornRun_all hrising (p := p)
  refine ⟨fun h => ?_, fun h => ?_⟩
  · rw [Journal.trailPages]
    exact if_pos (fun hlen => h (hall.mp hlen))
  · rw [Journal.trailPages]
    rw [if_neg (not_not.mpr (hall.mpr h))]
    change (if (j.tornRun p 0).length = 32 then _ else _) = _
    split
    · rfl
    · rw [List.append_nil]

/-- A trail slot on a later page lies in the run of its page, which is all that page holds, and which is in the trail. -/
theorem Journal.mem_trailPages (hrising : Rising (j.store.map (·.1))) (fuel p : Nat) {a : Nat} (ha : a ∈ j.trailPages fuel p) :
    j.TornPage (a / 32) ∧ a ∈ j.tornRun (a / 32) 0 ∧ ∀ b ∈ j.tornRun (a / 32) 0, b ∈ j.trailPages fuel p := by
  induction fuel generalizing p with
  | zero => exact absurd ha List.not_mem_nil
  | succ fuel ih =>
    obtain ⟨hnot, hpage⟩ := Journal.trailPages_succ hrising fuel p
    by_cases htorn : j.TornPage p
    · rw [hpage htorn] at ha ⊢
      rcases List.mem_append.mp ha with ha | ha
      · have hap : a / 32 = p := ((Journal.mem_tornRun (Nat.zero_le 32)).mp ha).1
        rw [hap]
        exact ⟨htorn, ha, fun b hb => List.mem_append_left _ hb⟩
      · split at ha
        · next hfull =>
          obtain ⟨h1, h2, h3⟩ := ih _ ha
          refine ⟨h1, h2, fun b hb => List.mem_append_right _ ?_⟩
          rw [if_pos hfull]
          exact h3 b hb
        · cases ha
    · rw [hnot htorn] at ha
      cases ha

variable {h : Nat} {e : Entry}

/-- The trail of a store whose highest entry is at h: the run after it, and when that ends its page the pages after. -/
theorem Journal.trail_eq (hh : j.highest = some (h, e)) : j.trail = j.tornRun (h / 32) (h % 32 + 1) ++
    if h % 32 + 1 + (j.tornRun (h / 32) (h % 32 + 1)).length = 32 then j.trailPages 127 (j.nextPage (h / 32)) else [] := by
  unfold Journal.trail
  rw [hh]
  change (if h % 32 + 1 + (j.tornRun (h / 32) (h % 32 + 1)).length = 32 then _ else _) = _
  split
  · rfl
  · rw [List.append_nil]

theorem Journal.mem_run_after {a : Nat} : a ∈ j.tornRun (h / 32) (h % 32 + 1) ↔
    a / 32 = h / 32 ∧ h < a ∧ ∀ b, h < b → b ≤ a → j.torn b = true := by
  rw [Journal.mem_tornRun (by omega)]
  have hstart : h / 32 * 32 + (h % 32 + 1) = h + 1 := by omega
  rw [hstart]
  exact Iff.rfl

/-- The page of the highest entry is no page that the trail goes on to. -/
theorem Journal.highest_page_not_torn (hrising : Rising (j.store.map (·.1))) (hh : j.highest = some (h, e)) :
    ¬ j.TornPage (h / 32) := by
  intro htorn
  have hcontent := (Journal.highest_some hrising hh).1
  have hmem := htorn h rfl (by rw [hcontent]; exact Option.some_ne_none _)
  have ht := ((Journal.mem_tornRun (Nat.zero_le 32)).mp hmem).2.2 h (by omega) (Nat.le_refl h)
  rw [Journal.torn_iff, hcontent] at ht
  rcases ht with ht | ht <;> cases ht

theorem Journal.mem_trail_page (hrising : Rising (j.store.map (·.1))) (hh : j.highest = some (h, e)) {a : Nat}
    (hap : a / 32 = h / 32) : a ∈ j.trail ↔ h < a ∧ ∀ b, h < b → b ≤ a → j.torn b = true := by
  rw [Journal.trail_eq hh, List.mem_append, Journal.mem_run_after]
  constructor
  · rintro (⟨-, hlt, htorn⟩ | ha)
    · exact ⟨hlt, htorn⟩
    · split at ha
      · have htorn := (Journal.mem_trailPages hrising _ _ ha).1
        rw [hap] at htorn
        exact absurd htorn (Journal.highest_page_not_torn hrising hh)
      · cases ha
  · rintro ⟨hlt, htorn⟩
    exact .inl ⟨hap, hlt, htorn⟩

/-- A trail slot on another page: the highest entry's page ends in trail slots, and its own holds nothing else. -/
theorem Journal.mem_trail_other (hrising : Rising (j.store.map (·.1))) (hh : j.highest = some (h, e)) {a : Nat}
    (ha : a ∈ j.trail) (hap : a / 32 ≠ h / 32) : (∀ b, b / 32 = h / 32 → h < b → b ∈ j.trail) ∧
      j.TornPage (a / 32) ∧ a ∈ j.tornRun (a / 32) 0 ∧ ∀ b ∈ j.tornRun (a / 32) 0, b ∈ j.trail := by
  rw [Journal.trail_eq hh] at ha ⊢
  rcases List.mem_append.mp ha with ha | ha
  · exact absurd (Journal.mem_run_after.mp ha).1 hap
  · split at ha
    · next hfull =>
      obtain ⟨h1, h2, h3⟩ := Journal.mem_trailPages hrising _ _ ha
      rw [if_pos hfull]
      refine ⟨fun b hb hlt => List.mem_append_left _ ?_, h1, h2, fun b hb => List.mem_append_right _ (h3 b hb)⟩
      exact (Journal.tornRun_whole (by omega)).mp hfull b hb (by omega)
    · cases ha

theorem Journal.nextPage_eq {p q : Nat} (hp : p < 128) (hq : q < 128) (hworn : q ∉ j.worn) (hne : q ≠ p)
    (hbetween : ∀ d, 0 < d → d < (q + 128 - p) % 128 → (p + d) % 128 ∈ j.worn) : j.nextPage p = q := by
  have hfind : (circularFrom (some p)).find? (fun x => decide (x ∉ j.worn)) = some q := by
    rw [circularFrom, find_map_range_eq_some]
    refine ⟨(q + 128 - p) % 128 - 1, ?_, ?_, by simpa using hworn, fun i hi => ?_⟩
    · change (q + 128 - p) % 128 - 1 < 128
      omega
    · change q = (p + 1 + ((q + 128 - p) % 128 - 1)) % 128
      omega
    · have hmem := hbetween (i + 1) (Nat.succ_pos i) (by omega)
      have hsum : p + 1 + i = p + (i + 1) := by omega
      simpa [hsum] using hmem
  unfold Journal.nextPage
  rw [hfind]
  rfl

/-- The next page that is not WORN holds trail slots when the highest entry's page ends in them and it holds torn entry
slots at its start and nothing after them. -/
theorem Journal.mem_trail_next (hrising : Rising (j.store.map (·.1))) (hh : j.highest = some (h, e)) {q a : Nat}
    (hnext : j.nextPage (h / 32) = q) (hne : q ≠ h / 32) (hend : ∀ b, b / 32 = h / 32 → h < b → b ∈ j.trail)
    (haq : a / 32 = q) : a ∈ j.trail ↔ j.TornPage q ∧ a ∈ j.tornRun q 0 := by
  constructor
  · intro ha
    obtain ⟨-, htorn, hrun, -⟩ := Journal.mem_trail_other hrising hh ha (by rw [haq]; exact hne)
    rw [haq] at htorn hrun
    exact ⟨htorn, hrun⟩
  · rintro ⟨htorn, hrun⟩
    have hfull : h % 32 + 1 + (j.tornRun (h / 32) (h % 32 + 1)).length = 32 := by
      refine (Journal.tornRun_whole (by omega)).mpr fun b hb hle => ?_
      have hlt : h < b := by omega
      exact Journal.mem_run_after.mpr ⟨hb, hlt, ((Journal.mem_trail_page hrising hh hb).mp (hend b hb hlt)).2⟩
    rw [Journal.trail_eq hh, if_pos hfull, hnext, (Journal.trailPages_succ hrising 126 q).2 htorn]
    exact List.mem_append_right _ (List.mem_append_left _ hrun)

/-- The run of a page in the statement's words. -/
theorem Journal.tornPage_run_iff {q a : Nat} (haq : a / 32 = q) : j.TornPage q ∧ a ∈ j.tornRun q 0 ↔
    (∀ b, b / 32 = q → b ≤ a → j.torn b = true) ∧
      ∀ b c, b / 32 = q → j.content b ≠ none → c / 32 = q → c ≤ b → j.torn c = true := by
  constructor
  · rintro ⟨htorn, ha⟩
    refine ⟨fun b hb hle => ((Journal.mem_tornRun (Nat.zero_le 32)).mp ha).2.2 b (by omega) hle,
      fun b c hb hne hc hle => ?_⟩
    exact ((Journal.mem_tornRun (Nat.zero_le 32)).mp (htorn b hb hne)).2.2 c (by omega) hle
  · rintro ⟨hrun, hpage⟩
    refine ⟨fun b hb hne => ?_, ?_⟩
    · exact (Journal.mem_tornRun (Nat.zero_le 32)).mpr ⟨hb, by omega, fun c hc hle => hpage b c hb hne (by omega) hle⟩
    · exact (Journal.mem_tornRun (Nat.zero_le 32)).mpr ⟨haq, by omega, fun c hc hle => hrun c (by omega) hle⟩

theorem Journal.trail_torn (hrising : Rising (j.store.map (·.1))) {a : Nat} (ha : a ∈ j.trail) : j.torn a = true := by
  cases hh : j.highest with
  | none =>
    unfold Journal.trail at ha
    rw [hh] at ha
    cases ha
  | some x =>
    obtain ⟨h, e⟩ := x
    by_cases hap : a / 32 = h / 32
    · obtain ⟨hlt, htorn⟩ := (Journal.mem_trail_page hrising hh hap).mp ha
      exact htorn a hlt (Nat.le_refl a)
    · obtain ⟨-, -, hrun, -⟩ := Journal.mem_trail_other hrising hh ha hap
      exact ((Journal.mem_tornRun (Nat.zero_le 32)).mp hrun).2.2 a (by omega) (Nat.le_refl a)

/-! ### Part-erased pages -/

theorem Journal.pageSlots_ne_nil {p : Nat} : j.pageSlots p ≠ [] ↔ ∃ a, a / 32 = p ∧ j.content a ≠ none := by
  rw [Ne, ← List.length_eq_zero_iff, Journal.pageSlots_length, List.length_eq_zero_iff]
  constructor
  · intro hne
    obtain ⟨c, hc⟩ := List.exists_mem_of_ne_nil _ hne
    exact ⟨c.1, Journal.mem_pageKeys.mp (List.mem_map.mpr ⟨c, hc, rfl⟩)⟩
  · rintro ⟨a, ha⟩ hnil
    have hmem := Journal.mem_pageKeys.mpr ha
    rw [hnil] at hmem
    cases hmem

/-- A page is full of entry slots that are not blank when it lists 32. -/
theorem Journal.pageSlots_full (hrising : Rising (j.store.map (·.1))) {p : Nat} :
    (j.pageSlots p).length = 32 ↔ ∀ a, a / 32 = p → j.content a ≠ none := by
  have hpage : ((List.range' 0 32).map (fun i => p * 32 + i)).Nodup :=
    List.Nodup.map (fun a b h => Nat.add_left_cancel h) List.nodup_range'
  have hmem : ∀ a, a ∈ (List.range' 0 32).map (fun i => p * 32 + i) ↔ a / 32 = p := by
    intro a
    rw [List.mem_map]
    constructor
    · rintro ⟨i, hi, rfl⟩
      have hi := List.mem_range'_1.mp hi
      omega
    · intro ha
      exact ⟨a - p * 32, List.mem_range'_1.mpr ⟨by omega, by omega⟩, by omega⟩
  have hkeys := Journal.pageKeys_nodup hrising p
  have hsub := hkeys.subperm (fun a ha => (hmem a).mpr (Journal.mem_pageKeys.mp ha).1)
  have hlen : (j.pageSlots p).length = ((j.pageCells p).map (·.1)).length := by
    rw [Journal.pageSlots_length, List.length_map]
  have hpagelen : ((List.range' 0 32).map (fun i => p * 32 + i)).length = 32 := by simp
  rw [hlen]
  constructor
  · intro hfull a ha
    have hperm := hsub.perm_of_length_le (by omega)
    exact (Journal.mem_pageKeys.mp (hperm.mem_iff.mpr ((hmem a).mpr ha))).2
  · intro hfull
    have hge := (hpage.subperm fun a ha => Journal.mem_pageKeys.mpr ⟨(hmem a).mp ha, hfull a ((hmem a).mp ha)⟩).length_le
    have hle := hsub.length_le
    omega

theorem Journal.mem_pageSlots (hrising : Rising (j.store.map (·.1))) {p a : Nat} {c : SlotContent} :
    (a, c) ∈ j.pageSlots p ↔ a / 32 = p ∧ j.content a = some c := by
  unfold Journal.pageSlots judgedSlots Journal.content
  rw [List.mem_map, Option.map_eq_some_iff]
  constructor
  · rintro ⟨x, hx, he⟩
    cases he
    obtain ⟨hmem, hp⟩ := Journal.mem_pageCells.mp hx
    exact ⟨hp, x.2, (Journal.cell_eq_some hrising).mpr hmem, rfl⟩
  · rintro ⟨hp, x, hx, rfl⟩
    exact ⟨(a, x), Journal.mem_pageCells.mpr ⟨(Journal.cell_eq_some hrising).mp hx, hp⟩, rfl⟩

theorem Journal.whole_eq_false (hrising : Rising (j.store.map (·.1))) {p : Nat} : j.whole p = false ↔
    ∃ a, a / 32 = p ∧ (j.content a = none ∨ j.content a = some .halfWritten) := by
  unfold Journal.whole
  rw [Bool.and_eq_false_iff, beq_eq_false_iff_ne, List.all_eq_false]
  change (j.pageSlots p).length ≠ 32 ∨ _ ↔ _
  rw [Ne, Journal.pageSlots_full hrising]
  constructor
  · rintro (hblank | ⟨⟨a, c⟩, hc, hhalf⟩)
    · simp only [not_forall, not_not] at hblank
      obtain ⟨a, ha, hnone⟩ := hblank
      exact ⟨a, ha, .inl hnone⟩
    · obtain ⟨hp, hcontent⟩ := (Journal.mem_pageSlots hrising).mp hc
      have hhalf : c = .halfWritten := by simpa using hhalf
      exact ⟨a, hp, .inr (by rw [hcontent, hhalf])⟩
  · rintro ⟨a, hp, hnone | hhalf⟩
    · exact .inl fun hall => hall a hp hnone
    · exact .inr ⟨(a, .halfWritten), (Journal.mem_pageSlots hrising).mpr ⟨hp, hhalf⟩, by simp⟩

theorem Journal.mem_partErased (hrising : Rising (j.store.map (·.1))) (p : Nat) : p ∈ j.partErased ↔ p < 128 ∧
    p ∉ j.worn ∧ j.scanTail ≠ some p ∧ (∀ a ∈ j.trail, a / 32 ≠ p) ∧ (∃ a, a / 32 = p ∧ j.content a ≠ none) ∧
      ∃ a, a / 32 = p ∧ (j.content a = none ∨ j.content a = some .halfWritten) := by
  rw [← Journal.pageSlots_ne_nil, ← Journal.whole_eq_false hrising]
  unfold Journal.partErased
  rw [List.mem_filter, List.mem_range]
  simp only [Bool.and_eq_true, decide_eq_true_eq, List.all_eq_true, bne_iff_ne, Bool.not_eq_true']
  tauto

end

/-- Settles O54. -/
theorem trailAndPartErasedPages : Obligations.TrailAndPartErasedPages := by
  intro j hrising hbound
  refine ⟨fun h e hh => Journal.highest_some hrising hh, fun hh => ⟨Journal.highest_none hrising hh, ?_, ?_⟩,
    fun h e hh => ⟨fun a hap => Journal.mem_trail_page hrising hh hap, fun a ha hap => ?_,
      fun q hq hworn hne hbetween hend a haq => ?_, fun htrail => ?_, fun a ha => ?_⟩, j.torn_iff,
    fun a ha => Journal.trail_torn hrising ha, fun a => ?_, Journal.mem_partErased hrising⟩
  · unfold Journal.trail
    rw [hh]
  · unfold Journal.scanTail Journal.trail
    rw [hh]
    rfl
  · obtain ⟨hend, htorn, hrun, hall⟩ := Journal.mem_trail_other hrising hh ha hap
    refine ⟨hend, fun b hb => ⟨?_, fun hle => hall b ?_⟩⟩
    · by_cases hnone : j.content b = none
      · exact .inr hnone
      · exact .inl (hall b (htorn b hb hnone))
    · obtain ⟨-, -, hbefore⟩ := (Journal.mem_tornRun (Nat.zero_le 32)).mp hrun
      exact (Journal.mem_tornRun (Nat.zero_le 32)).mpr ⟨hb, by omega, fun c hc hcb => hbefore c hc (by omega)⟩
  · have hh128 : h / 32 < 128 := by
      obtain ⟨c, hc, -⟩ := (Journal.content_eq_written hrising).mp (Journal.highest_some hrising hh).1
      have := hbound _ hc
      dsimp only at this
      omega
    rw [Journal.mem_trail_next hrising hh (Journal.nextPage_eq hh128 hq hworn hne hbetween) hne hend haq,
      Journal.tornPage_run_iff haq]
  · unfold Journal.scanTail
    rw [htrail, hh]
    rfl
  · unfold Journal.scanTail
    rw [ha]
  · unfold Journal.toVoid
    rw [List.mem_filter, beq_iff_eq]

end Sys2Proof.Machine
end

section
/-! PROOFS. The events of the wire and the requests answered at once change the port, held responses and notices alone; and
a request is either no more than such an event or is carried out by its own operation (R138 to R142, R181 to R187). -/

namespace Sys2Proof.Machine

/-- A state that differs in the port and in the slots' held responses and notices alone. -/
structure State.WireTo (s t : State) : Prop where
  rest  : t = { s with port := t.port, slots := t.slots }
  slots : ∀ k, t.slot k = { s.slot k with held := (t.slot k).held, notice := (t.slot k).notice }

theorem State.WireTo.refl (s : State) : s.WireTo s := ⟨rfl, fun _ => rfl⟩

theorem State.WireTo.trans {s t u : State} (h : s.WireTo t) (g : t.WireTo u) : s.WireTo u := by
  refine ⟨?_, fun k => ?_⟩
  · have hu := g.rest
    rw [h.rest] at hu
    exact hu
  · have hu := g.slots k
    rw [h.slots k] at hu
    exact hu

/-- The fields of a slot record that the wire leaves alone. -/
theorem State.WireTo.slot_field {s t : State} (h : s.WireTo t) {α : Type} (f : Slot → α)
    (hf : ∀ (sl : Slot) a b, f { sl with held := a, notice := b } = f sl) (k : SlotNo) : f (t.slot k) = f (s.slot k) := by
  rw [h.slots k]
  exact hf _ _ _

section
variable {s : State}

theorem State.wire_port (p : Port) : s.WireTo { s with port := p } := ⟨rfl, fun _ => rfl⟩

theorem State.wire_modSlot (k : SlotNo) {f : Slot → Slot}
    (hf : f (s.slot k) = { s.slot k with held := (f (s.slot k)).held, notice := (f (s.slot k)).notice }) :
    s.WireTo (s.modSlot k f) := by
  refine ⟨rfl, fun j => ?_⟩
  by_cases hj : j = k
  · subst hj
    rw [State.modSlot_slot_same]
    exact hf
  · rw [State.modSlot_slot_other s f hj]

theorem State.wire_holdFrame (k : SlotNo) (b : List Byte) : s.WireTo (s.holdFrame k b) :=
  State.wire_modSlot k (f := fun sl => { sl with held := some b }) rfl

theorem State.wire_setNotice (k : SlotNo) (n : Notice) : s.WireTo (s.setNotice k n) :=
  State.wire_modSlot k (f := fun sl => { sl with notice := some n }) rfl

theorem State.wire_clearNotice (k : SlotNo) : s.WireTo (s.clearNotice k) := by
  unfold State.clearNotice
  split
  · exact State.wire_modSlot k (f := fun sl => { sl with notice := none }) rfl
  · exact State.wire_modSlot k (f := fun sl => { sl with notice := none }) rfl
  · exact .refl s
  · exact .refl s

theorem State.wire_endWrite (k : SlotNo) : s.WireTo (s.endWrite k) := State.wire_port _

theorem State.wire_answer (k : SlotNo) (i : Instr) (res : Result) (r : Option Reason) (b : List Byte) :
    s.WireTo (s.answer k i res r b) := by
  unfold State.answer
  split
  · exact .refl s
  · exact State.wire_holdFrame k _

theorem State.wire_answerRefused (k : SlotNo) (i : Instr) (r : Reason) : s.WireTo (s.answerRefused k i r) :=
  State.wire_answer k i _ _ _

/-! ### The events of the wire -/

theorem wire_execWriteAddressByte (b : Byte) : ∃ t, execWriteAddressByte b s = .next t ∧ s.WireTo t := by
  refine ⟨_, rfl, ?_⟩
  split
  · exact State.wire_port _
  · split
    · exact .refl s
    · split
      · exact .refl s
      · split <;> exact State.wire_port _

theorem wire_execAddressByteForAnotherAddress (b : Byte) :
    ∃ t, execAddressByteForAnotherAddress b s = .next t ∧ s.WireTo t := by
  refine ⟨_, rfl, ?_⟩
  split
  · exact State.wire_port _
  · split
    · exact .refl s
    · split
      · exact State.wire_port _
      · exact .refl s

theorem wire_execDataByte (b : Byte) : ∃ t, execDataByte b s = .next t ∧ s.WireTo t := by
  refine ⟨_, rfl, ?_⟩
  split
  · exact State.wire_port _
  · split
    · dsimp only
      split <;> exact State.wire_port _
    all_goals exact .refl s

theorem wire_execEmptyWrite : ∃ t, execEmptyWrite s = .next t ∧ s.WireTo t := by
  refine ⟨_, rfl, ?_⟩
  split
  · split
    · exact State.wire_endWrite _
    · exact .refl s
  all_goals exact .refl s

theorem State.wire_handBadFrame (k : SlotNo) (at0 : SlotState) (bytes : List Byte) :
    s.WireTo (s.handBadFrame k at0 bytes) := by
  unfold State.handBadFrame
  dsimp only
  split
  · exact State.wire_setNotice k _
  · exact (State.wire_clearNotice k).trans (State.wire_holdFrame k _)

theorem wire_execBadFrame : ∃ t, execBadFrame s = .next t ∧ s.WireTo t := by
  refine ⟨_, rfl, ?_⟩
  split
  · dsimp only
    split
    · exact (State.wire_endWrite _).trans (State.wire_handBadFrame _ _ _)
    · exact .refl s
  all_goals exact .refl s

theorem wire_execReadTransaction (b : Byte) : ∃ t, execReadTransaction b s = .next t ∧ s.WireTo t := by
  refine ⟨_, rfl, ?_⟩
  split
  · exact State.wire_port _
  · split
    · exact .refl s
    · split
      · exact .refl s
      · exact State.wire_port _

theorem wire_execAcknowledgeFromMaster (ack : Bool) : ∃ t, execAcknowledgeFromMaster ack s = .next t ∧ s.WireTo t := by
  refine ⟨_, rfl, ?_⟩
  split
  · split <;> exact State.wire_port _
  all_goals exact .refl s

theorem wire_execReadEnd : ∃ t, execReadEnd s = .next t ∧ s.WireTo t := by
  refine ⟨_, rfl, ?_⟩
  split
  · exact State.wire_port _
  · exact State.wire_port _
  all_goals exact .refl s

/-! ### Requests -/

/-- What is known of a slot whose request has passed the checks of R141. -/
structure State.Handed (u : State) (k : SlotNo) (i : Instr) : Prop where
  awake   : (u.slot k).state = .idle ∨ (u.slot k).state = .held
  permits : ∀ c h item, i.request = some (c, h) → RequestCode.item c = some item → holdsItem (u.slot k).perms item = true
  admits  : ∀ c h, i.request = some (c, h) → (u.slot k).state.admits c = true

/-- A check of a table that passes. -/
theorem firstFailed_none_mem {l : List (Bool × Reason)} (h : firstFailed l = none) {c : Bool} {r : Reason} (hc : (c, r) ∈ l) :
    c = true := by
  induction l with
  | nil => cases hc
  | cons x l ih =>
    obtain ⟨b, r'⟩ := x
    cases b with
    | false => cases h
    | true =>
      rcases List.mem_cons.mp hc with hc | hc
      · cases hc
        rfl
      · exact ih h hc

/-- A request changes no more than the wire does, or its operation is carried out on such a state. -/
theorem State.take_cases (s : State) (i : Instr) (run : State → SlotNo → State) : s.WireTo (s.take i run) ∨
    ∃ u k, s.WireTo u ∧ u.Handed k i ∧ s.take i run = run u k := by
  unfold State.take
  split
  · next c hd k at0 hreq _ =>
    dsimp only
    split
    · exact .inl ((State.wire_endWrite k).trans (State.wire_setNotice k _))
    · have hwire : s.WireTo ((s.endWrite k).clearNotice k) := (State.wire_endWrite k).trans (State.wire_clearNotice k)
      split
      · exact .inl (hwire.trans (State.wire_answerRefused k i _))
      · next hpass =>
        have hstate := firstFailed_none_mem hpass
          (List.mem_cons_of_mem _ (List.mem_cons_of_mem _ List.mem_cons_self))
        have hperm := firstFailed_none_mem hpass (List.mem_cons_of_mem _ List.mem_cons_self)
        refine .inr ⟨_, k, hwire, ⟨SlotState.awake_of_admits hstate, fun c' h' item hi hitem => ?_, fun c' h' hi => ?_⟩, rfl⟩
        · cases hreq.symm.trans hi
          rwa [hitem] at hperm
        · cases hreq.symm.trans hi
          exact hstate
  · exact .inl (.refl s)

/-- A query changes no more than the wire does. -/
theorem State.wire_takeQuery (s : State) (i : Instr) (c : State → SlotNo → List (Bool × Reason))
    (b : State → SlotNo → List Byte) : s.WireTo (s.takeQuery i c b) := by
  unfold State.takeQuery
  rcases s.take_cases i _ with h | ⟨u, k, hwire, -, hrun⟩
  · exact h
  · rw [hrun]
    split
    · exact hwire.trans (State.wire_answerRefused k i _)
    · exact hwire.trans (State.wire_answer k i _ _ _)

end

end Sys2Proof.Machine
end

section
/-! PROOFS. Everything a command can do outside of STARTING, said once: each meaning but a reset is a chain of the moves of
`Move`. What every move keeps, every such command keeps. -/

namespace Sys2Proof.Machine

/-! ### The moves -/

/-- What a slot record may become by itself: it gets no vend and no vend number, its permissions stay or are emptied, and
it begins no stage write but a KEY_LOAD's. -/
structure Slot.Moves (x y : Slot) : Prop where
  vend    : ∀ v', y.vend = some v' → ∃ v, x.vend = some v ∧ ∀ n, v'.number = some n → v.number = some n
  perms   : y.perms = x.perms ∨ y.perms = 0
  staging : ∀ b w, y.admin = some ⟨some b, .staging w⟩ →
    (∃ w', x.admin = some ⟨some b, .staging w'⟩) ∨ ∃ g r, b = .keyLoad g r

theorem Slot.Moves.of {x y : Slot} (hv : y.vend = x.vend ∨ y.vend = none) (hp : y.perms = x.perms ∨ y.perms = 0)
    (ha : ∀ b w, y.admin = some ⟨some b, .staging w⟩ →
      (∃ w', x.admin = some ⟨some b, .staging w'⟩) ∨ ∃ g r, b = .keyLoad g r) : x.Moves y where
  vend v' h := by
    rcases hv with hv | hv
    · exact ⟨v', hv ▸ h, fun _ hn => hn⟩
    · rw [hv] at h
      cases h
  perms := hp
  staging := ha

/-- A change of the other fields. -/
theorem Slot.Moves.same {x y : Slot} (hv : y.vend = x.vend ∨ y.vend = none) (hp : y.perms = x.perms ∨ y.perms = 0)
    (ha : y.admin = x.admin ∨ y.admin = none) : x.Moves y :=
  .of hv hp fun b w h => by
    rcases ha with ha | ha
    · exact .inl ⟨w, ha ▸ h⟩
    · rw [ha] at h
      cases h

/-- An admin operation that is not in its stage write. -/
theorem Slot.Moves.admin {x y : Slot} (hv : y.vend = x.vend) (hp : y.perms = x.perms) {e : Option EntryBody}
    {ph : AdminPhase} (ha : y.admin = some ⟨e, ph⟩) (hph : ∀ w, ph ≠ .staging w) : x.Moves y :=
  .of (.inl hv) (.inl hp) fun b w h => by
    rw [ha] at h
    injection h with h
    injection h with _ h
    exact absurd h (hph w)

/-- A vend that stays, with its number. -/
theorem Slot.Moves.kept {x y : Slot} {v v' : Vend} (hx : x.vend = some v) (hy : y.vend = some v')
    (hn : v'.number = v.number) (hp : y.perms = x.perms) (ha : y.admin = x.admin) : x.Moves y where
  vend w h := by
    rw [hy] at h
    cases h
    exact ⟨v, hx, fun n h => hn ▸ h⟩
  perms := .inl hp
  staging b w h := .inl ⟨w, ha ▸ h⟩

/-- The elementary moves outside of STARTING; q is the entry queue as the command found it. -/
inductive Move (q : List QEntry) : State → State → Prop
  /-- The blocks whose contents no statement about a move speaks of. -/
  | frame {s t : State} (watch : t.watch = s.watch) (slots : t.slots = s.slots) (float : t.float = s.float)
      (journal : t.journal = s.journal) (clock : t.clock = s.clock) : Move q s t
  | wire {s t : State} (h : s.WireTo t) : Move q s t
  | slot (s : State) (k : SlotNo) (f : Slot → Slot) (h : (s.slot k).Moves (f (s.slot k))) : Move q s (s.modSlot k f)
  /-- A slot that may vend gets a vend with no number. -/
  | admitted (s : State) (k : SlotNo) (v : Vend) (hp : holdsItem (s.slot k).perms .vend = true) (hn : v.number = none) :
      Move q s (s.modSlot k (fun sl => { sl with vend := some v, lastEnding := none }))
  /-- An entry commits and a vend takes its number. -/
  | number (s : State) (a n x : Nat) (e : QEntry) (rest : List QEntry) (hop : s.journal.op = .program a n x)
      (hq : s.journal.queue = e :: rest) (k : SlotNo) (v v' : Vend) (h : (s.slot k).vend = some v) (hn : v'.number = some n) :
      Move q s (({ s with journal := s.journal.commit a n x e }).modSlot k (fun sl => { sl with vend := some v' }))
  /-- The target of a BIND that was in the queue. -/
  | bind (s : State) (e : BindEntry) (f : Slot → Slot) (h : ∃ x ∈ q, x.body = .bind e)
      (hv : (f (s.slot e.target)).vend = (s.slot e.target).vend) (ha : (f (s.slot e.target)).admin = (s.slot e.target).admin) :
      Move q s (s.modSlot e.target f)
  | watch (s : State) (w : Watch) (h : w.part ≠ .starting) : Move q s { s with watch := w }
  | channel (s : State) (k : SlotNo) (d : Option Nat) (h : k ≠ 0 ∨ (s.slot k).vend ≠ none) : Move q s (s.setChannel k d)
  | freeze (s : State) : Move q s { s.setChannel 0 none with float := { s.float with state := .frozen } }
  | judge (s : State) : Move q s s.judge
  | regrant (s : State) (r : FloatRecord) : Move q s ({ s with float := { s.float with work := r } }).judge
  | clock (s : State) (c : Clock) (h : c.channels[(0 : Fin 8)] = s.clock.channels[(0 : Fin 8)]) : Move q s { s with clock := c }
  | float (s : State) (f : FloatAccount) (hs : f.state = s.float.state) (he : f.work.expiry = s.float.work.expiry) :
      Move q s { s with float := f }
  /-- An entry that holds a reservation joins the queue: no BIND of slot 0, unless slot 0 has it in a stage write. -/
  | enqueue (s : State) (e : QEntry) (hr : e.reserved = true)
      (hb : ∀ b, e.body = .bind b → b.target ≠ 0 ∨ ∃ w, (s.slot 0).admin = some ⟨some e.body, .staging w⟩) :
      Move q s (s.enqueue e)
  | unqueue (s : State) (p : QEntry → Bool) :
      Move q s { s with journal := { s.journal with queue := s.journal.queue.filter p } }
  | reserved (s : State) (n : Nat)
      (h : n ≤ s.journal.reserved ∨ s.journal.mode = .normal ∧ n ≤ s.journal.obtainable) : Move q s (s.setReserved n)
  /-- A SETTLE of a number in range. -/
  | settle (s : State) (n : Nat) (h : s.journal.mark ≤ n ∧ n ≤ s.journal.last) :
      Move q s { s with journal := { s.journal with
        header := some ⟨n, (s.clippingVend n).elim n (· - 1), s.clippingVend n⟩ } }
  | settled (s : State) (w : HeaderWrite) (h : s.journal.header = some w) :
      Move q s { s with journal := { s.journal with mark := w.target, header := none } }
  | program (s : State) (a : Nat) (hop : s.journal.op = .idle) (ha : s.journal.slotAtHand = some a) :
      Move q s (s.beginProgram a)
  | erase (s : State) (p : Nat) (hop : s.journal.op = .idle) (hp : s.journal.oldestSettled = some p) :
      Move q s (s.beginErase p)
  | commit (s : State) (a n x : Nat) (e : QEntry) (rest : List QEntry) (hop : s.journal.op = .program a n x)
      (hq : s.journal.queue = e :: rest) : Move q s { s with journal := s.journal.commit a n x e }
  /-- A program does not verify, and the Journal's promises still hold: its void mark begins. -/
  | failedProgram (s : State) (a n x : Nat) (hop : s.journal.op = .program a n x)
      (h : ({ s.journal.put a .halfWritten with op := .idle } : Journal).promisesTooMuch = false) :
      Move q s { s with journal := { s.journal.put a .halfWritten with op := .voidMark a } }
  | voided (s : State) (a : Nat) (hop : s.journal.op = .voidMark a) :
      Move q s { s with journal := { s.journal.put a .void with op := .idle } }
  | erased (s : State) (p : Nat) (hop : s.journal.op = .erase p) :
      Move q s { s with journal := { s.journal.blankPage p with op := .idle } }
  | eraseFailed (s : State) (p n : Nat) (hop : s.journal.op = .erase p) :
      Move q s { s with journal := { s.journal.setPage p (s.journal.partErase p (Config.failedErase n)) with op := .wornMark p } }
  | worn (s : State) (p : Nat) (hop : s.journal.op = .wornMark p)
      (h : ({ s.journal.wearPage p with op := .idle } : Journal).promisesTooMuch = false) :
      Move q s { s with journal := { s.journal.wearPage p with op := .idle } }
  | once (s : State) (b : Bool) : Move q s { s with journal := { s.journal with failedOnce := b } }
  /-- The Journal enters FAILED mode, whatever its store holds then. -/
  | fail (s : State) (j : Journal) (e : Engine) (hmark : j.mark = s.journal.mark) (hlast : j.last = s.journal.last)
      (hheader : j.header = s.journal.header) : Move q s { s with journal := j.fail, engine := e }
  /-- In FAILED mode the void mark of a failed program begins. -/
  | lateVoidMark (s : State) (a : Nat) (hmode : s.journal.mode = .failed) (h : s.journal.content a ≠ none) :
      Move q s (s.beginVoidMark a)

/-- A chain of moves. -/
abbrev Moves (q : List QEntry) : State → State → Prop := Relation.ReflTransGen (Move q)

theorem Moves.of {q : List QEntry} {s t : State} (h : Move q s t) : Moves q s t := .single h

theorem Moves.trans' {q : List QEntry} {s t u : State} (h : Moves q s t) (g : Moves q t u) : Moves q s u :=
  Relation.ReflTransGen.trans h g

/-- What every move keeps, every chain keeps. -/
theorem Moves.keeps {q : List QEntry} {P : State → Prop} (hP : ∀ s t, Move q s t → P s → P t) {s t : State}
    (h : Moves q s t) (hs : P s) : P t := by
  induction h with
  | refl => exact hs
  | tail _ p ih => exact hP _ _ p ih

theorem Moves.foldl {q : List QEntry} {α : Type} {f : State → α → State} (hf : ∀ s a, Moves q s (f s a)) (l : List α)
    (s : State) : Moves q s (l.foldl f s) := by
  induction l generalizing s with
  | nil => exact .refl
  | cons a l ih => exact (hf s a).trans' (ih _)

/-- No move enters STARTING. -/
theorem Move.running {q : List QEntry} {s t : State} (h : Move q s t) (hs : s.watch.part ≠ .starting) :
    t.watch.part ≠ .starting := by
  cases h with
  | watch w h => exact h
  | frame watch => rw [watch]; exact hs
  | wire h => rw [h.rest]; exact hs
  | _ => exact hs

theorem Moves.running {q : List QEntry} {s t : State} (h : Moves q s t) (hs : s.watch.part ≠ .starting) :
    t.watch.part ≠ .starting := h.keeps (fun _ _ m => m.running) hs

/-! ### Updates of one block -/

section
variable {q : List QEntry} {s : State}

theorem Moves.frame {s t : State} (watch : t.watch = s.watch) (slots : t.slots = s.slots) (float : t.float = s.float)
    (journal : t.journal = s.journal) (clock : t.clock = s.clock) : Moves q s t := .of (.frame watch slots float journal clock)

/-- A slot's other fields change. -/
theorem modSlot_moves (k : SlotNo) (f : Slot → Slot)
    (hv : (f (s.slot k)).vend = (s.slot k).vend ∨ (f (s.slot k)).vend = none)
    (hp : (f (s.slot k)).perms = (s.slot k).perms ∨ (f (s.slot k)).perms = 0)
    (ha : (f (s.slot k)).admin = (s.slot k).admin ∨ (f (s.slot k)).admin = none) : Moves q s (s.modSlot k f) :=
  .of (.slot s k f (.same hv hp ha))

/-- A slot gets an admin operation that is not in its stage write. -/
theorem setAdmin_moves (k : SlotNo) (e : Option EntryBody) (ph : AdminPhase) (hph : ∀ w, ph ≠ .staging w) :
    Moves q s (s.modSlot k (fun sl => { sl with admin := some ⟨e, ph⟩ })) := .of (.slot s k _ (.admin rfl rfl rfl hph))

theorem holdFrame_moves (k : SlotNo) (b : List Byte) : Moves q s (s.holdFrame k b) :=
  modSlot_moves k (fun sl => { sl with held := some b }) (.inl rfl) (.inl rfl) (.inl rfl)

theorem respond_moves (k : SlotNo) (res : Result) (r : Option Reason) (b : List Byte) : Moves q s (s.respond k res r b) :=
  holdFrame_moves k _

theorem dropAdmin_moves (k : SlotNo) : Moves q s (s.modSlot k (fun sl => { sl with admin := none })) :=
  modSlot_moves k _ (.inl rfl) (.inl rfl) (.inr rfl)

/-- A slot becomes IDLE or WORKING, with a request in hand or none. -/
theorem setState_moves (k : SlotNo) (st : SlotState) (c : Option (Byte × Byte)) :
    Moves q s (s.modSlot k (fun sl => { sl with state := st, inHand := c })) :=
  modSlot_moves k _ (.inl rfl) (.inl rfl) (.inl rfl)

theorem returnShare_moves (n : Nat) : Moves q s (s.returnShare n) := .of (.reserved s _ (.inl (Nat.sub_le _ _)))

theorem setLock_moves (m : Nat) (o : Option SlotNo) : Moves q s (s.setLock m o) := .frame rfl rfl rfl rfl rfl

theorem releaseReservation_moves (k : SlotNo) : Moves q s (s.releaseReservation k) := .of (.float s _ rfl rfl)

theorem enqueue_moves (e : QEntry) (hr : e.reserved = true) (hb : ∀ b, e.body ≠ .bind b) : Moves q s (s.enqueue e) :=
  .of (.enqueue s e hr fun b h => absurd h (hb b))

/-! ### Endings -/

theorem finishWork_moves (n : Nat) (s : State) (k : SlotNo) : Moves q s (State.finishWork n s k) := by
  induction n generalizing s k with
  | zero => exact .refl
  | succ n ih =>
    unfold State.finishWork
    split
    · split
      · next j _ _ _ =>
        exact (setState_moves k .working (some unbindInHand)).trans' ((setAdmin_moves j (some (.unbind k)) .queued nofun).trans'
          (enqueue_moves (adminEntry j (.unbind k)) rfl nofun))
      · next j _ _ _ =>
        refine (modSlot_moves k (fun sl => { sl with state := .idle, inHand := none, pendingChange := none })
          (.inl rfl) (.inl rfl) (.inl rfl)).trans' ((respond_moves j .refused (some .storeFault) []).trans' ?_)
        exact (dropAdmin_moves j).trans' ((returnShare_moves 1).trans' (ih _ _))
    · exact setState_moves k _ _
    · exact setState_moves k _ _

theorem endWork_moves (s : State) (k : SlotNo) : Moves q s (s.endWork k) := finishWork_moves 8 s k

/-- A vend that stays with its number. -/
theorem keepVend_moves {k : SlotNo} {v v' : Vend} (h : (s.slot k).vend = some v) (hn : v'.number = v.number) :
    Moves q s (s.modSlot k (fun sl => { sl with vend := some v' })) := .of (.slot s k _ (.kept h rfl hn rfl rfl))

theorem setPendingEnding_moves {k : SlotNo} {v : Vend} (h : (s.slot k).vend = some v) (r : Reason) :
    Moves q s (s.setPendingEnding k v r) := keepVend_moves h rfl

theorem closeVend_moves {k : SlotNo} {v v' : Vend} (h : (s.slot k).vend = some v') (hn : v.number = v'.number) (e : Ending)
    (r : Option Reason) : Moves q s (s.closeVend k v e r) :=
  (keepVend_moves (v' := { v with phase := .closing, ending := some (e, r), pendingEnding := none }) h hn).trans'
    (enqueue_moves _ rfl nofun)

theorem removeVend_moves (k : SlotNo) (l : LastEnding) : Moves q s (s.removeVend k l) :=
  modSlot_moves k _ (.inr rfl) (.inl rfl) (.inl rfl)

theorem endRefused_moves (s : State) (k : SlotNo) (v : Vend) (r : Reason) : Moves q s (s.endRefused k v r) :=
  (returnShare_moves _).trans' ((releaseReservation_moves k).trans' ((setLock_moves _ _).trans' ((respond_moves _ _ _ _).trans'
    ((removeVend_moves _ _).trans' (endWork_moves _ _)))))

theorem endStoreFault_moves {k : SlotNo} {v v' : Vend} (h : (s.slot k).vend = some v') : Moves q s (s.endStoreFault k v) := by
  refine (returnShare_moves v.share).trans' ((releaseReservation_moves k).trans' ((setLock_moves v.meter none).trans'
    ((respond_moves k .ended (some .storeFault) v.endedBytes).trans' ?_)))
  refine (Moves.of (.channel _ k none (.inr ?_))).trans' ((modSlot_moves k (fun sl => { sl with
    till := sl.till.add v.plan.tender v.plan.change v.undelivered }) (.inl rfl) (.inl rfl) (.inl rfl)).trans'
      ((removeVend_moves _ _).trans' (endWork_moves _ _)))
  rw [State.respond_slot_same]
  exact fun hnone => absurd (h.symm.trans hnone) (Option.some_ne_none _)

theorem overtake_moves (s : State) (k : SlotNo) (r : Reason) : Moves q s (s.overtake k r) := by
  unfold State.overtake
  split
  · exact .refl
  · next v hv =>
    split
    · exact .refl
    · split
      · exact .refl
      · split
        · exact setPendingEnding_moves hv r
        · split
          · exact endRefused_moves _ _ _ _
          · split
            · exact (Moves.of (.unqueue s _)).trans' (endRefused_moves _ _ _ _)
            · exact setPendingEnding_moves hv r
      · split
        · next u _ =>
          split
          · exact (Moves.frame (s := s) (t := s.discardUnit u) rfl rfl rfl rfl rfl).trans' (closeVend_moves (s := s.discardUnit u) hv rfl _ _)
          · exact setPendingEnding_moves hv r
          · exact setPendingEnding_moves hv r
        · refine (Moves.of (.channel s k none (.inr (by rw [hv]; exact Option.some_ne_none v)))).trans' ?_
          refine (modSlot_moves k (fun sl => { sl with state := .working }) (.inl rfl) (.inl rfl) (.inl rfl)).trans' ?_
          exact closeVend_moves (v' := v) (by simp [hv]) rfl _ _

theorem releaseTarget_moves (s : State) (t : SlotNo) : Moves q s (s.releaseTarget t) := by
  refine .of (.slot s t _ ?_)
  dsimp only
  split
  · exact .same (.inl rfl) (.inl rfl) (.inl rfl)
  · exact .same (.inl rfl) (.inl rfl) (.inl rfl)

theorem releaseClaims_moves (s : State) (b : EntryBody) : Moves q s (s.releaseClaims b) := by
  cases b with
  | retire | meterUpdate | meterHold => exact setLock_moves _ _
  | bind e => exact modSlot_moves e.target (fun sl => { sl with pendingChange := none }) (.inl rfl) (.inl rfl) (.inl rfl)
  | unbind t => exact releaseTarget_moves s t
  | tariffLoad | keyLoad => exact .frame rfl rfl rfl rfl rfl
  | vendOpen | token | vendEnd | grant | enrol | clockSet | shiftClose | start => exact .refl
  -- RECALL is left.
  | _ => exact releaseReservation_moves 0

theorem refuseAdmin_moves (s : State) (k : SlotNo) (a : AdminOp) (r : Reason) : Moves q s (s.refuseAdmin k a r) := by
  unfold State.refuseAdmin
  dsimp only
  refine (respond_moves k .refused (some r) (s.lateBody a)).trans' ((dropAdmin_moves k).trans'
    ((returnShare_moves 1).trans' ?_))
  cases a.entry with
  | none => exact endWork_moves _ _
  | some b => exact (releaseClaims_moves _ _).trans' (endWork_moves _ _)

theorem failSlot_moves (s : State) (k : SlotNo) : Moves q s (s.failSlot k) := by
  unfold State.failSlot
  split
  · next v hv =>
    split
    · exact .refl
    · split
      · exact endRefused_moves _ _ _ _
      · exact endStoreFault_moves hv
  · split
    · exact .refl
    · split
      · exact refuseAdmin_moves _ _ _ _
      · exact refuseAdmin_moves _ _ _ _
      all_goals exact .refl

theorem enterRun_moves (s : State) : Moves q s s.enterRun := .of (.watch s _ nofun)

theorem returnToRun_moves (s : State) : Moves q s s.returnToRun := by
  unfold State.returnToRun
  split
  · exact enterRun_moves s
  · exact .refl

/-- FAILED mode from any store that keeps the Journal's mark, last number and header write. -/
theorem enterFailed_moves (hs : s.watch.part ≠ .starting) (j : Journal) (hmark : j.mark = s.journal.mark)
    (hlast : j.last = s.journal.last) (hheader : j.header = s.journal.header) :
    Moves q s ({ s with journal := j }).enterFailed := by
  have hstart : Moves q s { s with journal := j.fail, engine := s.engine.failUnit } := .of (.fail s j _ hmark hlast hheader)
  have hfold := (hstart.trans' (Moves.foldl failSlot_moves slotList _)).trans' (.of (.reserved _ 0 (.inl (Nat.zero_le _))))
  unfold State.enterFailed
  dsimp only
  rw [if_neg (hfold.running hs)]
  exact hfold.trans' (returnToRun_moves _)

/-! ### The engine and the Journal -/

theorem openingTurn_moves {k : SlotNo} {v : Vend} (h : (s.slot k).vend = some v) : Moves q s (s.openingTurn k v) :=
  (Moves.frame (s := s) (t := { s with engine := ⟨k, none⟩ }) rfl rfl rfl rfl rfl).trans'
    ((keepVend_moves (s := { s with engine := ⟨k, none⟩ }) (v := v) (v' := { v with openQueued := true }) h rfl).trans'
      (enqueue_moves { place := .slot k, slot := k, reserved := true, body := .vendOpen v.openEntry } rfl nofun))

theorem grantUnit_moves (s : State) (k : SlotNo) (v : Vend) : Moves q s (s.grantUnit k v) := by
  unfold State.grantUnit
  split
  · exact .frame rfl rfl rfl rfl rfl
  · exact .refl

theorem grant_moves {t : State} (h : s.grant? = some t) : Moves q s t := by
  unfold State.grant? at h
  split at h
  · split at h
    · cases h
    · split at h
      · cases h
      · next hv =>
        split at h
        · cases h; exact openingTurn_moves hv
        · cases h; exact grantUnit_moves _ _ _
        · cases h
  · cases h

theorem grants_moves (n : Nat) (s : State) : Moves q s (State.grants n s) := by
  induction n generalizing s with
  | zero => exact .refl
  | succ n ih =>
    unfold State.grants
    split
    · exact .refl
    · next h => exact (grant_moves h).trans' (ih _)

theorem headLook_moves (hs : s.watch.part ≠ .starting) (hop : s.journal.op = .idle) : Moves q s s.headLook := by
  unfold State.headLook
  split
  · next ha =>
    split
    · exact enterFailed_moves hs s.journal rfl rfl rfl
    · exact .of (.program s _ hop ha)
  · split
    · next hp =>
      split
      · exact .refl
      · exact .of (.erase s _ hop hp)
    · rw [if_neg hs]

theorem triggerLook_moves (hop : s.journal.op = .idle) : Moves q s s.triggerLook := by
  unfold State.triggerLook
  split
  · split
    · next hp => exact .of (.erase s _ hop hp)
    · exact .refl
  · exact .refl

theorem journalLook_moves (hs : s.watch.part ≠ .starting) : Moves q s s.journalLook := by
  unfold State.journalLook
  split
  · next h =>
    split
    · exact headLook_moves hs h.2.1
    · exact triggerLook_moves h.2.1
  · exact .refl

theorem proceed_moves (hs : s.watch.part ≠ .starting) : Moves q s s.proceed := by
  unfold State.proceed
  split
  · next h => exact absurd h hs
  · have look : Moves q s s.engineLook := grants_moves 8 s
    exact look.trans' (journalLook_moves (look.running hs))
  · exact journalLook_moves hs

/-- A chain that ends with what the part does by itself. -/
theorem Moves.proceed {t : State} (h : Moves q s t) (hs : s.watch.part ≠ .starting) : Moves q s t.proceed :=
  h.trans' (proceed_moves (h.running hs))

theorem Moves.journalLook {t : State} (h : Moves q s t) (hs : s.watch.part ≠ .starting) : Moves q s t.journalLook :=
  h.trans' (journalLook_moves (h.running hs))

end

end Sys2Proof.Machine
end

section
/-! PROOFS. Outside of STARTING every command but a reset is a chain of moves. -/

namespace Sys2Proof.Machine

/-- The command takes the part through a reset (R167, R171). -/
def resets : Instr → Bool
  | .warmReset _ => true
  | .supplyLoss => true
  | .coldStart _ => true
  | _ => false

/-- The Journal has an entry slot for one more admin request (R120). -/
def State.HasEntrySlot (s : State) : Prop := s.journal.mode = .normal ∧ s.journal.reserved + 1 ≤ s.journal.obtainable

theorem State.hasEntrySlot_of_checks {s : State} {l : List (Bool × Reason)} (h : firstFailed l = none)
    (hsub : s.journalChecks ⊆ l) : s.HasEntrySlot :=
  ⟨by simpa using firstFailed_none_mem h (hsub List.mem_cons_self),
    by simpa using firstFailed_none_mem h (hsub (List.mem_cons_of_mem _ List.mem_cons_self))⟩

section
variable {q : List QEntry} {s : State}

/-! ### Requests -/

theorem claimEntry_moves (h : s.HasEntrySlot) : Moves q s s.claimEntry := .of (.reserved s _ (.inr h))

theorem State.WireTo.moves {t : State} (h : s.WireTo t) : Moves q s t := .of (.wire h)

theorem answerRefused_moves (k : SlotNo) (i : Instr) (r : Reason) : Moves q s (s.answerRefused k i r) :=
  (State.wire_answerRefused k i r).moves

theorem accept_moves (k : SlotNo) (i : Instr) : Moves q s (s.accept k i) := by
  unfold State.accept
  split
  · exact .refl
  · exact modSlot_moves k _ (.inl rfl) (.inl rfl) (.inl rfl)

theorem refuse_moves (k : SlotNo) (i : Instr) (r : Reason) : Moves q s (s.refuse k i r) :=
  (respond_moves k _ _ _).trans' (setState_moves k .idle none)

theorem take_moves (hs : s.watch.part ≠ .starting) (i : Instr) (run : State → SlotNo → State)
    (h : ∀ (u : State) k, u.watch.part ≠ .starting → u.Handed k i → Moves q u (run u k)) : Moves q s (s.take i run) := by
  rcases s.take_cases i run with hwire | ⟨u, k, hwire, hhanded, hrun⟩
  · exact hwire.moves
  · rw [hrun]
    have hmoves : Moves q s u := hwire.moves
    exact hmoves.trans' (h u k (hmoves.running hs) hhanded)

theorem takeWork_moves (hs : s.watch.part ≠ .starting) (i : Instr) (c : State → SlotNo → List (Bool × Reason))
    (p : State → SlotNo → State)
    (h : ∀ (s : State) k, s.watch.part ≠ .starting → firstFailed (c s k) = none → Moves q s (p s k)) :
    Moves q s (s.takeWork i c p) := by
  refine take_moves hs _ _ fun s k hs _ => ?_
  have haccept : Moves q s (s.accept k i) := accept_moves k i
  refine haccept.trans' ?_
  dsimp only
  split
  · exact refuse_moves _ _ _
  · next hpass => exact h _ _ (haccept.running hs) hpass

theorem queueAdmin_moves (hs : s.watch.part ≠ .starting) (h : s.HasEntrySlot) (k : SlotNo) {b : EntryBody}
    (hb : ∀ e, b = .bind e → e.target ≠ 0) : Moves q s (s.queueAdmin k b) := by
  have hqueued : Moves q s ((s.claimEntry.modSlot k (fun sl => { sl with admin := some ⟨some b, .queued⟩ })).enqueue
      (adminEntry k b)) :=
    (claimEntry_moves h).trans' ((setAdmin_moves k (some b) .queued nofun).trans' (.of (.enqueue _ _ rfl fun e he => .inl (hb e he))))
  exact hqueued.journalLook hs

/-- The reserved entry slot and the queued entry after an update that leaves the part and the Journal alone. -/
theorem Moves.queueAdmin {t : State} (hst : Moves q s t) (hs : s.watch.part ≠ .starting) (h : s.HasEntrySlot)
    (hj : t.journal = s.journal) (k : SlotNo) {b : EntryBody} (hb : ∀ e, b = .bind e → e.target ≠ 0) :
    Moves q s (t.queueAdmin k b) := by
  refine hst.trans' (queueAdmin_moves (hst.running hs) ?_ k hb)
  unfold State.HasEntrySlot
  rw [hj]
  exact h

theorem admitVend_moves {b : VendBody} {r : MeterRecord} {p : Plan} {k : SlotNo} (h : s.admission b = .ok (r, p))
    (hperm : holdsItem (s.slot k).perms .vend = true) : Moves q s (s.admitVend k b r p) := by
  have hclaim : s.journal.mode = .normal ∧ s.journal.reserved + p.share ≤ s.journal.obtainable := by
    obtain ⟨-, -, -, -, cell, -, hmeter⟩ := State.admission_eq_ok.mp h
    obtain ⟨-, -, -, -, -, -, -, -, -, -, -, hmode, hfits⟩ := State.admitMeter_eq_ok.mp hmeter
    have hshare : p.share = p.units.length + 2 := rfl
    exact ⟨hmode, by omega⟩
  have hreserve : Moves q s ((s.setLock r.number (some k)).reserve k p.value) :=
    (setLock_moves r.number (some k)).trans' (.of (.float _ _ rfl rfl))
  have hshare : Moves q ((s.setLock r.number (some k)).reserve k p.value)
      (((s.setLock r.number (some k)).reserve k p.value).setReserved (s.journal.reserved + p.share)) :=
    .of (.reserved _ _ (.inr hclaim))
  exact hreserve.trans' (hshare.trans' (.of (.admitted _ k (newVend b r p) hperm rfl)))

theorem passUnbind_moves (hs : s.watch.part ≠ .starting) (h : s.HasEntrySlot) (k t : SlotNo) :
    Moves q s (s.passUnbind k t) := by
  unfold State.passUnbind
  dsimp only
  have hmark : Moves q s (s.modSlot t (fun sl => { sl with pendingChange := some (.unbindBy k) })) :=
    modSlot_moves t _ (.inl rfl) (.inl rfl) (.inl rfl)
  have hwait : Moves q s ((s.modSlot t (fun sl => { sl with pendingChange := some (.unbindBy k) })).claimEntry.modSlot k
      (fun sl => { sl with admin := some ⟨some (.unbind t), .waiting⟩ })) :=
    hmark.trans' ((claimEntry_moves (s := s.modSlot t _) h).trans' (setAdmin_moves k (some (.unbind t)) .waiting nofun))
  split
  · exact hmark.queueAdmin hs h rfl k nofun
  · split
    · exact (hwait.trans' (overtake_moves _ t .unbound)).journalLook hs
    · split
      · exact hwait.journalLook hs
      · exact (hmark.trans' (setState_moves t .working (some unbindInHand))).queueAdmin hs h rfl k nofun

theorem passKeyLoad_moves (h : s.HasEntrySlot) (k : SlotNo) (b : KeyBody) : Moves q s (s.passKeyLoad k b) := by
  refine (claimEntry_moves h).trans' ?_
  refine (Moves.frame (s := s.claimEntry) (t := { s.claimEntry.modKey b.group (fun x => { x with loading := true }) with former :=
    { (s.claimEntry.modKey b.group (fun x => { x with loading := true })).former with
      keyWrite := some (.stage (Fin.ofNat 4 b.group) ⟨b.revision, b.material⟩) } }) rfl rfl rfl rfl rfl).trans' ?_
  refine .of (.slot _ k (fun sl => { sl with admin := some ⟨some (.keyLoad b.group b.revision), .staging false⟩ })
    (.of (.inl rfl) (.inl rfl) fun e w he => .inr ⟨b.group, b.revision, ?_⟩))
  dsimp only at he
  injection he with he
  injection he with he
  exact (Option.some.inj he).symm

theorem passSettle_moves {number : Nat} (h : s.journal.mark ≤ number ∧ number ≤ s.journal.last) (k : SlotNo) :
    Moves q s (s.passSettle k number) :=
  (Moves.of (.settle s number h)).trans' (setAdmin_moves k none .header nofun)

theorem leaveHeld_moves {k : SlotNo} (h : (s.slot k).vend ≠ none) (i : Instr) : Moves q s (s.leaveHeld k i) :=
  (Moves.of (.channel s k none (.inr h))).trans' (accept_moves k i)

/-- A vend whose number was checked is there. -/
theorem vend_of_vendNoChecks {k : SlotNo} {n : Nat} (h : firstFailed (s.vendNoChecks k n) = none) : (s.slot k).vend ≠ none := by
  have hany := firstFailed_none_mem h (List.mem_append_right _ List.mem_cons_self)
  intro hnone
  rw [hnone] at hany
  cases hany

/-! ### Commits -/

theorem adminDone_moves (k : SlotNo) (b : List Byte) : Moves q s (s.adminDone k b) :=
  (respond_moves k .done none b).trans' ((dropAdmin_moves k).trans' (endWork_moves _ k))

theorem adminWriting_moves (k : SlotNo) : Moves q s (s.adminWriting k) := by
  refine .of (.slot s k _ (.of (.inl rfl) (.inl rfl) fun b w h => ?_))
  obtain ⟨a, -, ha⟩ := Option.map_eq_some_iff.mp h
  injection ha with _ hph
  cases hph

theorem oweMeterWrite_moves (w : MeterWrite) : Moves q s (s.oweMeterWrite w) := .frame rfl rfl rfl rfl rfl

theorem oweFloatWrite_moves (r : FloatRecord) (h : r.expiry = s.float.work.expiry) (d : FloatDone) :
    Moves q s (s.oweFloatWrite r d) := .of (.float s _ rfl h)

theorem drawFloat_moves (amount n : Nat) : Moves q s (s.oweFloatWrite (s.float.work.draw amount n) .nothing) :=
  oweFloatWrite_moves (s.float.work.draw amount n) rfl .nothing

theorem commitToken_moves (k : SlotNo) (t : TokenEntry) (n : Nat) : Moves q s (s.commitToken k t n) := by
  unfold State.commitToken
  split
  · exact .refl
  · next v hv =>
    exact (Moves.frame (s := s) (t := { s with engine := s.engine.toApplying }) rfl rfl rfl rfl rfl).trans'
      ((keepVend_moves (s := { s with engine := s.engine.toApplying }) (v' := { v with share := v.share - 1 }) hv rfl).trans'
        (oweMeterWrite_moves _))

theorem respondEnd_moves (k : SlotNo) (v : Vend) (d : EndEntry) : Moves q s (s.respondEnd k v d) := by
  unfold State.respondEnd
  split <;> exact respond_moves _ _ _ _

theorem commitEnd_moves (k : SlotNo) (d : EndEntry) (n : Nat) : Moves q s (s.commitEnd k d n) := by
  unfold State.commitEnd
  split
  · exact .refl
  · next v _ =>
    have hdrawn := (returnShare_moves (q := q) (s := s) (v.share - 1)).trans' ((releaseReservation_moves k).trans'
      (drawFloat_moves (v.plan.value - d.undelivered) n))
    have htill := hdrawn.trans' ((setLock_moves v.meter none).trans' (modSlot_moves k (fun sl => { sl with
      till := sl.till.add v.plan.tender v.plan.change d.undelivered }) (.inl rfl) (.inl rfl) (.inl rfl)))
    exact htill.trans' ((respondEnd_moves k v d).trans' ((removeVend_moves k _).trans' (endWork_moves _ k)))

theorem commitGrant_moves (g a c x n : Nat) : Moves q s (s.commitGrant g a c x n) :=
  (Moves.of (.regrant s (s.float.work.grant g a c x n))).trans' ((oweFloatWrite_moves _ rfl _).trans' (adminWriting_moves 0))

theorem commitRecall_moves (a n : Nat) : Moves q s (s.commitRecall a n) :=
  (releaseReservation_moves 0).trans' ((oweFloatWrite_moves (s := s.releaseReservation 0) (s.float.work.draw (a * 100) n)
    rfl _).trans' (adminWriting_moves 0))

theorem commitMeter_moves (k : SlotNo) (m : Nat) (c : RecordChange) (n : Nat) : Moves q s (s.commitMeter k m c n) :=
  (oweMeterWrite_moves _).trans' (adminWriting_moves k)

theorem commitKeyLoad_moves (g n : Nat) : Moves q s (s.commitKeyLoad g n) := by
  have hwrite : Moves q s { s with former := { s.former with keyWrite := some (.install (Fin.ofNat 4 g) n) } } :=
    .frame rfl rfl rfl rfl rfl
  exact hwrite.trans' (adminWriting_moves 0)

theorem commitTariff_moves (b : TariffBody) (n : Nat) : Moves q s (s.commitTariff b n) := by
  have hwrite : Moves q s { s with tariff := { s.tariff with write := some (b, n) } } := .frame rfl rfl rfl rfl rfl
  exact hwrite.trans' (adminWriting_moves 0)

theorem Clock.moveChannels_zero (c : Clock) (step : Int) : (c.moveChannels step)[(0 : Fin 8)] = c.channels[(0 : Fin 8)] := by
  simp [Clock.moveChannels]

theorem commitClock_moves (w m n : Nat) : Moves q s (s.commitClock w m n) := by
  have hset : Moves q s { s with clock := s.clock.set w m n } := .of (.clock s _ (s.clock.moveChannels_zero _))
  have hjudged := hset.trans' (Moves.of (.judge _))
  have hwrite (u : State) (x : Option SettingsWrite) : Moves q u { u with clock := { u.clock with settingsWrite := x } } :=
    .of (.clock u _ rfl)
  exact hjudged.trans' ((hwrite _ _).trans' (adminWriting_moves 0))

theorem commitBind_moves {e : BindEntry} (h : ∃ x ∈ q, x.body = .bind e) (k : SlotNo) (n : Nat) :
    Moves q s (s.commitBind k e n) := (Moves.of (.bind s e _ h rfl rfl)).trans' (adminDone_moves k _)

theorem commitUnbind_moves (k t : SlotNo) (n : Nat) : Moves q s (s.commitUnbind k t n) := by
  unfold State.commitUnbind
  dsimp only
  split
  · exact (respond_moves k .done none _).trans'
      (modSlot_moves k (fun sl => { sl.unbind with admin := none }) (.inl rfl) (.inr rfl) (.inr rfl))
  · exact (modSlot_moves t Slot.unbind (.inl rfl) (.inr rfl) (.inl rfl)).trans' (adminDone_moves k _)

theorem commitShiftClose_moves (k : SlotNo) (t : Till) (n : Nat) : Moves q s (s.commitShiftClose k t n) :=
  (modSlot_moves k (fun sl => { sl with till := Till.zero }) (.inl rfl) (.inl rfl) (.inl rfl)).trans' (adminDone_moves k _)

theorem scanFinish_moves (hs : s.watch.part ≠ .starting) : Moves q s s.scanFinish := by
  refine (Moves.of (.judge s)).trans' ?_
  have hended : Moves q s.judge { s.judge with watch := { s.judge.watch with
      scan := { s.judge.watch.scan with stage := .ended } } } := .of (.watch _ _ hs)
  unfold State.scanFinish
  dsimp only
  split
  · exact hended
  · exact hended.trans' (enterRun_moves _)

theorem commitBody_moves (hs : s.watch.part ≠ .starting) {e : QEntry} (he : e ∈ q) (hopen : ∀ o, e.body ≠ .vendOpen o)
    (n : Nat) : Moves q s (s.commitBody e n) := by
  unfold State.commitBody
  split
  · next h => exact absurd h (hopen _)
  · exact commitToken_moves _ _ _
  · rw [if_neg hs]
    exact commitEnd_moves _ _ _
  · exact commitGrant_moves _ _ _ _ _
  · exact commitRecall_moves _ _
  · exact commitMeter_moves _ _ _ _
  · exact commitMeter_moves _ _ _ _
  · exact commitMeter_moves _ _ _ _
  · exact commitMeter_moves _ _ _ _
  · exact commitKeyLoad_moves _ _
  · exact commitTariff_moves _ _
  · exact commitClock_moves _ _ _
  · next hb => exact commitBind_moves ⟨e, he, hb⟩ _ _
  · exact commitUnbind_moves _ _ _
  · exact commitShiftClose_moves _ _ _
  · exact scanFinish_moves hs

/-- A commit of an entry that was in the queue. -/
theorem commit_moves (hs : s.watch.part ≠ .starting) {a n x : Nat} {e : QEntry} {rest : List QEntry}
    (hop : s.journal.op = .program a n x) (hqueue : s.journal.queue = e :: rest) (he : e ∈ q) :
    Moves q s (s.commit a n x e) := by
  have hcommit : Moves q s { s with journal := s.journal.commit a n x e } := .of (.commit s a n x e rest hop hqueue)
  by_cases hopen : ∃ o, e.body = .vendOpen o
  · obtain ⟨o, ho⟩ := hopen
    unfold State.commit State.commitBody
    rw [ho]
    change Moves q s (({ s with journal := s.journal.commit a n x e }).commitOpen e.slot n)
    unfold State.commitOpen
    split
    · exact hcommit
    · next v hv =>
      have hnumber := Move.number (q := q) s a n x e rest hop hqueue e.slot v
        { v with number := some n, share := v.share - 1 } hv rfl
      exact (Moves.of hnumber).trans' (oweMeterWrite_moves _)
  · exact hcommit.trans' (commitBody_moves (s := { s with journal := s.journal.commit a n x e }) hs he (fun o ho => hopen ⟨o, ho⟩) n)

/-! ### Record writes -/

theorem endMeterWrite_moves (w : MeterWrite) : Moves q s (s.endMeterWrite w) := .frame rfl rfl rfl rfl rfl

theorem openApplied_moves {k : SlotNo} {v : Vend} (h : (s.slot k).vend = some v) : Moves q s (s.openApplied k v) := by
  unfold State.openApplied
  split
  · exact closeVend_moves h rfl _ _
  · split
    · exact closeVend_moves h rfl _ _
    · exact keepVend_moves h rfl

theorem enterHeld_moves {k : SlotNo} {v : Vend} (h : (s.slot k).vend ≠ none) : Moves q s (s.enterHeld k v) := by
  refine (respond_moves k .part none v.bodyBytes).trans' ((Moves.of (.channel _ k _ (.inr ?_))).trans'
    (modSlot_moves k (fun sl => { sl with state := .held }) (.inl rfl) (.inl rfl) (.inl rfl)))
  rw [State.respond_slot_same]
  exact h

theorem unitApplied_moves {k : SlotNo} {v : Vend} (h : (s.slot k).vend = some v) (tok : Token) :
    Moves q s (s.unitApplied k v tok) := by
  unfold State.unitApplied
  dsimp only
  have htok := (keepVend_moves (q := q) (v' := { v with batch := v.batch ++ [tok], issued := v.issued + 1 }) h rfl)
  have hslot : ((s.modSlot k (fun sl => { sl with vend := some { v with
      batch := v.batch ++ [tok], issued := v.issued + 1 } })).slot k).vend =
      some { v with batch := v.batch ++ [tok], issued := v.issued + 1 } := by rw [State.modSlot_slot_same]
  refine htok.trans' ?_
  split
  · exact endStoreFault_moves hslot
  · split
    · exact closeVend_moves hslot rfl _ _
    · split
      · exact closeVend_moves hslot rfl _ _
      · split
        · exact enterHeld_moves (by rw [hslot]; exact Option.some_ne_none _)
        · exact .refl

theorem finishUnit_moves (t : Transform) (u : UnitInProgress) : Moves q s (s.finishUnit t u) := by
  unfold State.finishUnit
  split
  · split
    · next v _ _ _ p _ =>
      have hunit : Moves q s { s with engine := { s.engine with unit := some { u with stage := .committing } } } :=
        .frame rfl rfl rfl rfl rfl
      exact hunit.trans' (enqueue_moves ⟨.engine, u.slot, true, .token (v.tokenEntry u p t.revision
        (Config.transform t.key t.plain))⟩ rfl nofun)
    · exact .frame rfl rfl rfl rfl rfl
  · exact .frame rfl rfl rfl rfl rfl

theorem floatResponse_moves (w : FloatWrite) : Moves q s (s.floatResponse w) := by
  unfold State.floatResponse
  split
  · exact .refl
  · exact adminDone_moves _ _
  · exact adminDone_moves _ _

theorem stageWritten_moves : Moves q s s.stageWritten := by
  unfold State.stageWritten
  split
  · next b ha =>
    exact (Moves.of (.enqueue s (adminEntry 0 b) rfl fun _ _ => .inr ⟨_, ha⟩)).trans'
      (setAdmin_moves (s := s.enqueue (adminEntry 0 b)) 0 (some b) .queued nofun)
  · exact refuseAdmin_moves _ _ _ _
  · exact .refl

/-! ### The store -/

theorem nextErase_moves (hs : s.watch.part ≠ .starting) : Moves q s s.nextErase := by
  unfold State.nextErase
  split
  · exact .of (.watch s _ hs)
  · exact .refl

theorem programFails_moves (hs : s.watch.part ≠ .starting) {a n x : Nat} (hop : s.journal.op = .program a n x) :
    Moves q s (s.programFails a) := by
  unfold State.programFails
  dsimp only
  split
  · have hfailed : Moves q s ({ s with journal := { s.journal.put a .halfWritten with op := .idle } }).enterFailed :=
      enterFailed_moves hs _ rfl rfl rfl
    refine hfailed.trans' (.of (.lateVoidMark _ a ?_ ?_))
    · rw [State.enterFailed_journal]
    · rw [State.enterFailed_journal]
      have hput := Journal.put_content s.journal a a .halfWritten
      rw [if_pos rfl] at hput
      intro hnone
      exact absurd (hput.symm.trans hnone) nofun
  · next h => exact .of (.failedProgram s a n x hop (by simpa using h))

theorem afterVoidMark_moves (hs : s.watch.part ≠ .starting) : Moves q s s.afterVoidMark := by
  unfold State.afterVoidMark
  split
  · exact .refl
  · split
    · exact enterFailed_moves hs s.journal rfl rfl rfl
    · exact (Moves.of (.once s true)).journalLook hs

/-! ### Supply -/

theorem warnStaging_moves : Moves q s s.warnStaging := by
  unfold State.warnStaging
  split
  · next e w ha =>
    refine .of (.slot s 0 _ (.of (.inl rfl) (.inl rfl) fun b w' h => .inl ⟨w, ?_⟩))
    dsimp only at h
    injection h with h
    injection h with h _
    rw [← h]
    exact ha
  · exact .refl

theorem refuseWaiting_moves (s : State) (k : SlotNo) : Moves q s (s.refuseWaiting k) := by
  unfold State.refuseWaiting
  split
  · exact refuseAdmin_moves _ _ _ _
  · exact .refl

theorem enterHoldup_moves (s : State) : Moves q s s.enterHoldup := by
  have hpart : Moves q s { s with watch := { s.watch with part := .holdup } } := .of (.watch s _ nofun)
  refine hpart.trans' ?_
  have hover (u : State) : Moves q u (u.overtakeAll .powerLow) := Moves.foldl (fun s k => overtake_moves s k _) _ _
  have hrelease (u : State) : Moves q u u.releaseWaitedFor := Moves.foldl releaseTarget_moves _ _
  have hrefuse (u : State) : Moves q u (slotList.foldl State.refuseWaiting u) := Moves.foldl refuseWaiting_moves slotList _
  exact (hover _).trans' ((hrelease _).trans' ((hrefuse _).trans' warnStaging_moves))

end

end Sys2Proof.Machine
end

section
/-! PROOFS. Outside of STARTING every command but a reset is a chain of moves: the commands one by one. -/

namespace Sys2Proof.Machine

/-- An outcome is a next state reached by moves. -/
def MovesTo (q : List QEntry) (s : State) (o : Out) : Prop := ∃ t, o = .next t ∧ Moves q s t

theorem MovesTo.wire {q : List QEntry} {s : State} {o : Out} (h : ∃ t, o = .next t ∧ s.WireTo t) : MovesTo q s o := by
  obtain ⟨t, ht, hwire⟩ := h
  exact ⟨t, ht, hwire.moves⟩

theorem MovesTo.next {q : List QEntry} {s t : State} (h : Moves q s t) : MovesTo q s (.next t) := ⟨t, rfl, h⟩

section
variable {q : List QEntry} {s : State} (hs : s.watch.part ≠ .starting)

/-! ### Events that look at no part state -/

theorem execSecondTick_moves : MovesTo q s (execSecondTick s) := by
  refine .next (.of (.clock s _ ?_))
  unfold Clock.tick
  split <;> rfl

theorem execFloatExpiry_moves : MovesTo q s (execFloatExpiry s) := by
  refine .next ?_
  split
  · exact .of (.freeze s)
  · exact .refl

theorem setWindow_moves (w : Bool) : Moves q s (s.setWindow w) := .of (.float s _ rfl rfl)

include hs

/-! ### Requests -/

theorem execVend_moves (h : Header) (b : VendBody) : MovesTo q s (execVend h b s) := by
  refine .next (take_moves hs _ _ fun s k hs hhanded => ?_)
  have haccept : Moves q s (s.accept k (.vend h b)) := accept_moves k _
  refine haccept.trans' ?_
  dsimp only
  split
  · exact refuse_moves k _ _
  · next r p hadmit =>
    refine (admitVend_moves hadmit ?_).proceed (haccept.running hs)
    have hslot : ((s.accept k (.vend h b)).slot k).perms = (s.slot k).perms := by
      simp [State.accept, Instr.request]
    rw [hslot]
    exact hhanded.permits .vend h .vend rfl rfl

theorem execContinueVend_moves (h : Header) (n : Nat) : MovesTo q s (execContinueVend h n s) := by
  refine .next (take_moves hs _ _ fun s k hs _ => ?_)
  split
  · exact answerRefused_moves k _ _
  · next hpass =>
    have hleft := leaveHeld_moves (q := q) (vend_of_vendNoChecks hpass) (.continueVend h n)
    refine (hleft.trans' (.of (.slot _ k _ ?_))).proceed hs
    refine ⟨fun v' hv' => ?_, .inl rfl, fun b w ha => .inl ⟨w, ha⟩⟩
    obtain ⟨v, hv, rfl⟩ := Option.map_eq_some_iff.mp hv'
    exact ⟨v, hv, fun _ hn => hn⟩

theorem execAbandon_moves (h : Header) (n : Nat) : MovesTo q s (execAbandon h n s) := by
  refine .next (take_moves hs _ _ fun s k hs _ => ?_)
  split
  · exact answerRefused_moves k _ _
  · next hpass =>
    exact ((leaveHeld_moves (vend_of_vendNoChecks hpass) _).trans' (overtake_moves _ k _)).journalLook hs

theorem execGrantOpen_moves (h : Header) (c d : BitVec 32) : MovesTo q s (execGrantOpen h c d s) := by
  refine .next (take_moves hs _ _ fun s k hs _ => ?_)
  split
  · exact answerRefused_moves k _ _
  · split
    · exact (setWindow_moves true).trans' (State.wire_answer k _ _ _ _).moves
    · exact (setWindow_moves _).trans' (answerRefused_moves k _ _)

theorem execGrant_moves (h : Header) (b : GrantBody) : MovesTo q s (execGrant h b s) := by
  refine .next (take_moves hs _ _ fun s k hs _ => ?_)
  have hshut : Moves q s ((s.setWindow false).accept k (.grant h b)) :=
    (setWindow_moves false).trans' (accept_moves k _)
  refine hshut.trans' ?_
  dsimp only
  split
  · exact refuse_moves k _ _
  · next hpass =>
    exact queueAdmin_moves (hshut.running hs)
      (State.hasEntrySlot_of_checks hpass (List.subset_append_right _ _)) k nofun

theorem execShiftClose_moves (h : Header) : MovesTo q s (execShiftClose h s) :=
  .next (takeWork_moves hs _ _ _ fun _ k hs hpass =>
    queueAdmin_moves hs (State.hasEntrySlot_of_checks hpass (List.subset_append_right _ _)) k nofun)

theorem execBind_moves (h : Header) (b : BindBody) : MovesTo q s (execBind h b s) := by
  refine .next (takeWork_moves hs _ _ _ fun s k hs hpass => ?_)
  have hrange : BindBody.inRange b = true := firstFailed_none_mem hpass
    (List.mem_append_left _ (List.mem_append_right _ List.mem_cons_self))
  have hdesk : targetSlot b.target ≠ 0 := by
    simp only [BindBody.inRange, deskInRange, Bool.and_eq_true, decide_eq_true_eq] at hrange
    obtain ⟨⟨⟨hdesk, -⟩, -⟩, -⟩ := hrange
    unfold targetSlot
    intro hzero
    have := congrArg Fin.val hzero
    simp only [Fin.ofNat, Fin.val_zero] at this
    omega
  refine Moves.queueAdmin (modSlot_moves _ _ (.inl rfl) (.inl rfl) (.inl rfl)) hs
    (State.hasEntrySlot_of_checks hpass (List.subset_append_right _ _)) rfl k fun e he => ?_
  cases he
  exact hdesk

theorem execUnbind_moves (h : Header) (n : Nat) : MovesTo q s (execUnbind h n s) :=
  .next (takeWork_moves hs _ _ _ fun _ k hs hpass =>
    passUnbind_moves hs (State.hasEntrySlot_of_checks hpass (List.subset_append_right _ _)) k _)

theorem execMeterHold_moves (h : Header) (m n : Nat) : MovesTo q s (execMeterHold h m n s) :=
  .next (takeWork_moves hs _ _ _ fun _ k hs hpass => (setLock_moves _ _).queueAdmin hs
    (State.hasEntrySlot_of_checks hpass (List.subset_append_right _ _)) rfl k nofun)

theorem execEnrol_moves (h : Header) (b : EnrolBody) : MovesTo q s (execEnrol h b s) :=
  .next (takeWork_moves hs _ _ _ fun _ k hs hpass =>
    queueAdmin_moves hs (State.hasEntrySlot_of_checks hpass (List.subset_append_right _ _)) k nofun)

theorem execRetire_moves (h : Header) (m : Nat) : MovesTo q s (execRetire h m s) :=
  .next (takeWork_moves hs _ _ _ fun _ k hs hpass => (setLock_moves _ _).queueAdmin hs
    (State.hasEntrySlot_of_checks hpass (List.subset_append_right _ _)) rfl k nofun)

theorem execMeterUpdate_moves (h : Header) (b : UpdateBody) : MovesTo q s (execMeterUpdate h b s) :=
  .next (takeWork_moves hs _ _ _ fun _ k hs hpass => (setLock_moves _ _).queueAdmin hs
    (State.hasEntrySlot_of_checks hpass (List.subset_append_right _ _)) rfl k nofun)

theorem execTariffLoad_moves (h : Header) (b : TariffBody) : MovesTo q s (execTariffLoad h b s) := by
  refine .next (takeWork_moves hs _ _ _ fun s k hs hpass => ?_)
  have hload : Moves q s (s.modSchedule b.schedule (fun x => { x with loading := true })) := .frame rfl rfl rfl rfl rfl
  exact hload.queueAdmin hs (State.hasEntrySlot_of_checks hpass (List.subset_append_right _ _)) rfl k nofun

theorem execKeyLoad_moves (h : Header) (b : KeyBody) : MovesTo q s (execKeyLoad h b s) :=
  .next (takeWork_moves hs _ _ _ fun _ k _ hpass =>
    passKeyLoad_moves (State.hasEntrySlot_of_checks hpass (List.subset_append_right _ _)) k b)

theorem execRecall_moves (h : Header) (a : Nat) : MovesTo q s (execRecall h a s) := by
  refine .next (takeWork_moves hs _ _ _ fun s k hs hpass => ?_)
  have hreserve : Moves q s (s.reserve k (a * 100)) := .of (.float s _ rfl rfl)
  exact hreserve.queueAdmin hs (State.hasEntrySlot_of_checks hpass
    (List.subset_append_of_subset_left _ (List.subset_append_right _ _))) rfl k nofun

theorem execClockSet_moves (h : Header) (n m : Nat) : MovesTo q s (execClockSet h n m s) :=
  .next (takeWork_moves hs _ _ _ fun _ k hs hpass =>
    queueAdmin_moves hs (State.hasEntrySlot_of_checks hpass (List.subset_append_right _ _)) k nofun)

theorem execSettle_moves (h : Header) (n : Nat) : MovesTo q s (execSettle h n s) :=
  .next (takeWork_moves hs _ _ _ fun _ k _ hpass => passSettle_moves
    (of_decide_eq_true (firstFailed_none_mem hpass (List.mem_append_right _ List.mem_cons_self))) k)

/-! ### The clock -/

theorem execLeaseExpiry_moves (k : SlotNo) : MovesTo q s (execLeaseExpiry k s) := by
  refine .next ?_
  split
  · next h => exact ((Moves.of (.channel s k none (.inl h.1))).trans' (overtake_moves _ k _)).journalLook hs
  · exact .refl

/-! ### The store -/

theorem execProgramCompletion_moves (v : Bool) : MovesTo s.journal.queue s (execProgramCompletion v s) := by
  refine .next ?_
  split
  · next a n x hop =>
    split
    · split
      · next e rest hq =>
        have hcommit : Moves s.journal.queue s (s.commit a n x e) := commit_moves hs hop hq (hq ▸ List.mem_cons_self)
        exact (hcommit.trans' (returnToRun_moves _)).proceed hs
      · exact .refl
    · exact programFails_moves hs hop
  all_goals exact .refl

theorem execVoidMarkCompletion_moves : MovesTo q s (execVoidMarkCompletion s) := by
  refine .next ?_
  split
  · next a hop =>
    have hvoid : Moves q s { s with journal := { s.journal.put a .void with op := .idle } } := .of (.voided s a hop)
    dsimp only
    split
    · have hstage (u : State) (st : ScanStage) (hu : u.watch.part ≠ .starting) : Moves q u (u.setStage st) :=
        .of (.watch u _ hu)
      exact (hvoid.trans' (hstage _ _ hs)).proceed hs
    · exact hvoid.trans' (afterVoidMark_moves hs)
  all_goals exact .refl

theorem execEraseCompletion_moves (v : Bool) : MovesTo q s (execEraseCompletion v s) := by
  refine .next ?_
  split
  · next p hop =>
    split
    · have herased : Moves q s { s with journal := { s.journal.blankPage p with op := .idle } } := .of (.erased s p hop)
      exact (herased.trans' (nextErase_moves hs)).proceed hs
    · exact (Moves.of (.eraseFailed s p s.free hop)).trans' (.frame rfl rfl rfl rfl rfl)
  all_goals exact .refl

theorem execWornMarkWriteCompletion_moves : MovesTo q s (execWornMarkWriteCompletion s) := by
  refine .next ?_
  split
  · next p hop =>
    dsimp only
    split
    · exact enterFailed_moves hs _ rfl rfl rfl
    · next h =>
      have hworn : Moves q s { s with journal := { s.journal.wearPage p with op := .idle } } :=
        .of (.worn s p hop (by simpa using h))
      exact (hworn.trans' (nextErase_moves hs)).proceed hs
  all_goals exact .refl

theorem execSettleHeaderWriteCompletion_moves : MovesTo q s (execSettleHeaderWriteCompletion s) := by
  refine .next ?_
  split
  · exact .refl
  · next w hw =>
    have hsettled : Moves q s { s with journal := { s.journal with mark := w.target, header := none } } :=
      .of (.settled s w hw)
    exact (hsettled.trans' (adminDone_moves 0 _)).journalLook hs

/-! ### The transform and the records -/

theorem execTransformCompletion_moves : MovesTo q s (execTransformCompletion s) := by
  refine .next ?_
  split
  · have hend : Moves q s s.endTransform := .frame rfl rfl rfl rfl rfl
    exact (hend.trans' (finishUnit_moves _ _)).proceed hs
  · exact .refl

theorem execOpenRecordWriteCompletion_moves : MovesTo q s (execOpenRecordWriteCompletion s) := by
  refine .next ?_
  split
  · next w _ _ =>
    split
    · have hend : Moves q s (s.endMeterWrite w) := endMeterWrite_moves w
      dsimp only
      split
      · next v hv =>
        split
        · exact (hend.trans' (openApplied_moves hv)).proceed hs
        · exact hend.proceed hs
      · exact hend.proceed hs
    all_goals exact .refl
  · exact .refl

theorem execUnitRecordWriteCompletion_moves : MovesTo q s (execUnitRecordWriteCompletion s) := by
  refine .next ?_
  split
  · next w _ u _ _ =>
    split
    · next tok _ =>
      have hend : Moves q s (s.endMeterWrite w).dropUnit := .frame rfl rfl rfl rfl rfl
      dsimp only
      split
      · next v hv => exact (hend.trans' (unitApplied_moves hv tok)).proceed hs
      · exact hend.proceed hs
    all_goals exact .refl
  · exact .refl

theorem execMeterWriteCompletion_moves : MovesTo q s (execMeterWriteCompletion s) := by
  refine .next ?_
  split
  · next w _ _ =>
    split
    · exact (((endMeterWrite_moves w).trans' (setLock_moves w.meter none)).trans' (adminDone_moves _ _)).proceed hs
    · exact (endMeterWrite_moves w).proceed hs
    all_goals exact .refl
  · exact .refl

theorem execFloatWriteCompletion_moves : MovesTo q s (execFloatWriteCompletion s) := by
  refine .next ?_
  split
  · next w _ _ =>
    have hend : Moves q s (s.endFloatWrite w) := .of (.float s _ rfl rfl)
    exact (hend.trans' (floatResponse_moves w)).proceed hs
  · exact .refl

theorem execScheduleWriteCompletion_moves : MovesTo q s (execScheduleWriteCompletion s) := by
  refine .next ?_
  split
  · next b n _ =>
    have hend : Moves q s { s.modSchedule b.schedule (fun _ => Schedule.ofBody b n false) with
        tariff := { (s.modSchedule b.schedule (fun _ => Schedule.ofBody b n false)).tariff with write := none } } :=
      .frame rfl rfl rfl rfl rfl
    dsimp only
    split
    · exact (hend.trans' (adminDone_moves 0 _)).proceed hs
    · exact hend.proceed hs
  · exact .refl

theorem execStageWriteCompletion_moves : MovesTo q s (execStageWriteCompletion s) := by
  refine .next ?_
  split
  · next g gen _ =>
    have hend : Moves q s (s.modKey g.val (fun e => { e with stage := some gen })).endKeyWrite := .frame rfl rfl rfl rfl rfl
    exact (hend.trans' stageWritten_moves).journalLook hs
  · next g _ =>
    have hend : Moves q s (s.modKey g.val (fun e => { e with stage := none })).endKeyWrite := .frame rfl rfl rfl rfl rfl
    exact hend.proceed hs
  all_goals exact .refl

theorem execInstallWriteCompletion_moves : MovesTo q s (execInstallWriteCompletion s) := by
  refine .next ?_
  split
  · next g n _ =>
    have hend : Moves q s (s.modKey g.val (fun e => { e.install n with loading := false })).endKeyWrite :=
      .frame rfl rfl rfl rfl rfl
    dsimp only
    split
    · exact (hend.trans' (adminDone_moves 0 _)).proceed hs
    · exact hend.proceed hs
  all_goals exact .refl

theorem execSettingsWriteCompletion_moves : MovesTo q s (execSettingsWriteCompletion s) := by
  refine .next ?_
  split
  · next w _ =>
    have hend : Moves q s { s with clock := { s.clock with
        settingsMonth := w.month, settingsApplied := w.number, settingsWrite := none } } := .of (.clock s _ rfl)
    dsimp only
    split
    · exact (hend.trans' (adminDone_moves 0 _)).proceed hs
    · exact hend.proceed hs
  · exact .refl

/-! ### Supply -/

theorem execSupplyWarning_moves : MovesTo q s (execSupplyWarning s) := by
  have hwarn : Moves q s (s.setWarning true) := .of (.watch s _ hs)
  refine .next ?_
  dsimp only
  split
  · exact (hwarn.trans' (enterHoldup_moves _)).journalLook hs
  all_goals exact hwarn

theorem execWarningClear_moves : MovesTo q s (execWarningClear s) := by
  have hclear : Moves q s (s.setWarning false) := .of (.watch s _ hs)
  refine .next ?_
  dsimp only
  split
  · exact hclear
  · exact (hclear.trans' (returnToRun_moves _)).proceed hs
  · next h => exact absurd h hs

theorem execRecoveryScanBegin_moves : MovesTo q s (execRecoveryScanBegin s) := by
  refine .next ?_
  rw [if_neg (fun h => hs h.2.1)]

/-- Outside of STARTING every command but a reset is a chain of moves. -/
theorem exec_movesTo {i : Instr} (hi : resets i = false) : MovesTo s.journal.queue s (exec i s) := by
  cases i with
  | warmReset | supplyLoss | coldStart => cases hi
  | status | meterQuery | floatQuery | reprint | journalRead => exact .next (State.wire_takeQuery _ _ _ _).moves
  | vend h b => exact execVend_moves hs h b
  | continueVend h n => exact execContinueVend_moves hs h n
  | abandon h n => exact execAbandon_moves hs h n
  | shiftClose h => exact execShiftClose_moves hs h
  | bind h b => exact execBind_moves hs h b
  | unbind h n => exact execUnbind_moves hs h n
  | meterHold h m n => exact execMeterHold_moves hs h m n
  | enrol h b => exact execEnrol_moves hs h b
  | retire h m => exact execRetire_moves hs h m
  | meterUpdate h b => exact execMeterUpdate_moves hs h b
  | tariffLoad h b => exact execTariffLoad_moves hs h b
  | keyLoad h b => exact execKeyLoad_moves hs h b
  | grantOpen h c d => exact execGrantOpen_moves hs h c d
  | grant h b => exact execGrant_moves hs h b
  | clockSet h n m => exact execClockSet_moves hs h n m
  | settle h n => exact execSettle_moves hs h n
  | writeAddressByte b => exact .wire (wire_execWriteAddressByte b)
  | dataByte b => exact .wire (wire_execDataByte b)
  | emptyWrite => exact .wire (wire_execEmptyWrite)
  | badFrame => exact .wire (wire_execBadFrame)
  | readTransaction b => exact .wire (wire_execReadTransaction b)
  | supplyWarning => exact execSupplyWarning_moves hs
  | warningClear => exact execWarningClear_moves hs
  | recoveryScanBegin => exact execRecoveryScanBegin_moves hs
  | secondTick => exact execSecondTick_moves
  | leaseExpiry k => exact execLeaseExpiry_moves hs k
  | floatExpiry => exact execFloatExpiry_moves
  | transformCompletion => exact execTransformCompletion_moves hs
  | programCompletion v => exact execProgramCompletion_moves hs v
  | voidMarkCompletion => exact execVoidMarkCompletion_moves hs
  | eraseCompletion v => exact execEraseCompletion_moves hs v
  | wornMarkWriteCompletion => exact execWornMarkWriteCompletion_moves hs
  | openRecordWriteCompletion => exact execOpenRecordWriteCompletion_moves hs
  | unitRecordWriteCompletion => exact execUnitRecordWriteCompletion_moves hs
  | meterWriteCompletion => exact execMeterWriteCompletion_moves hs
  | floatWriteCompletion => exact execFloatWriteCompletion_moves hs
  | scheduleWriteCompletion => exact execScheduleWriteCompletion_moves hs
  | stageWriteCompletion => exact execStageWriteCompletion_moves hs
  | installWriteCompletion => exact execInstallWriteCompletion_moves hs
  | settingsWriteCompletion => exact execSettingsWriteCompletion_moves hs
  | settleHeaderWriteCompletion => exact execSettleHeaderWriteCompletion_moves hs
  | addressByteForAnotherAddress b => exact .wire (wire_execAddressByteForAnotherAddress b)
  | acknowledgeFromMaster a => exact .wire (wire_execAcknowledgeFromMaster a)
  | readEnd => exact .wire (wire_execReadEnd)
  -- RECALL is left.
  | _ => exact execRecall_moves hs _ _

theorem exec_moves {t : State} {i : Instr} (hi : resets i = false) (h : exec i s = .next t) : Moves s.journal.queue s t := by
  obtain ⟨u, hu, hmoves⟩ := exec_movesTo hs hi
  cases h.symm.trans hu
  exact hmoves

end

end Sys2Proof.Machine
end

section
/-! PROOFS. What every move keeps: slot 0's part in the work, compare channel 8, and the order of the settle mark. -/

namespace Sys2Proof.Machine

section
variable {q : List QEntry} {s t : State}

/-- A page's entry slots replaced: the store alone changes. -/
theorem Journal.setPage_rest (j : Journal) (p : Nat) (cells : List (Nat × SlotContent)) :
    (j.setPage p cells).worn = j.worn ∧ (j.setPage p cells).mark = j.mark ∧ (j.setPage p cells).last = j.last ∧
      (j.setPage p cells).tail = j.tail ∧ (j.setPage p cells).mode = j.mode ∧ (j.setPage p cells).queue = j.queue ∧
      (j.setPage p cells).header = j.header := by
  rw [Journal.setPage_eq]
  exact ⟨rfl, rfl, rfl, rfl, rfl, rfl, rfl⟩

/-! ### Slot 0 (R83, R137, R143) -/

theorem State.SlotZeroAdmin.of (hs : s.SlotZeroAdmin) (hslot : t.slot 0 = s.slot 0)
    (hqueue : ∀ e ∈ t.journal.queue, e ∈ s.journal.queue) : t.SlotZeroAdmin where
  vend := hslot ▸ hs.vend
  noVend := hslot ▸ hs.noVend
  binds e he := hs.binds e (hqueue e he)
  staging b w h := hs.staging b w (hslot ▸ h)

theorem Slot.Moves.noVend {x y : Slot} (h : x.Moves y) (hx : holdsItem x.perms .vend = false) :
    holdsItem y.perms .vend = false := by
  rcases h.perms with hp | hp
  · rw [hp]
    exact hx
  · rw [hp]
    decide

theorem State.SlotZeroAdmin.modSlot (hs : s.SlotZeroAdmin) {k : SlotNo} {f : Slot → Slot}
    (h : k = 0 → (s.slot k).Moves (f (s.slot k))) : (s.modSlot k f).SlotZeroAdmin := by
  by_cases hk : k = 0
  · subst hk
    have hmoves := h rfl
    have hslot : (s.modSlot 0 f).slot 0 = f (s.slot 0) := State.modSlot_slot_same s 0 f
    refine ⟨?_, ?_, hs.binds, fun b w hb => ?_⟩
    · rw [hslot]
      by_contra hsome
      obtain ⟨v', hv'⟩ := Option.ne_none_iff_exists'.mp hsome
      obtain ⟨v, hv, -⟩ := hmoves.vend v' hv'
      rw [hs.vend] at hv
      cases hv
    · rw [hslot]
      exact hmoves.noVend hs.noVend
    · rw [hslot] at hb
      rcases hmoves.staging b w hb with ⟨w', hw'⟩ | hload
      · exact hs.staging b w' hw'
      · exact hload
  · exact hs.of (State.modSlot_slot_other s f (Ne.symm hk)) fun _ he => he

/-- A slot with a vend, or with the permission to vend, is a desk slot. -/
theorem State.SlotZeroAdmin.desk_of_vend (hs : s.SlotZeroAdmin) {k : SlotNo} (h : (s.slot k).vend ≠ none) : k ≠ 0 :=
  fun hk => h (hk ▸ hs.vend)

theorem State.SlotZeroAdmin.desk_of_perm (hs : s.SlotZeroAdmin) {k : SlotNo}
    (h : holdsItem (s.slot k).perms .vend = true) : k ≠ 0 := by
  rintro rfl
  rw [hs.noVend] at h
  cases h

theorem Move.slotZeroAdmin (h : Move q s t) (hq : ∀ x ∈ q, ∀ b, x.body = .bind b → b.target ≠ 0) (hs : s.SlotZeroAdmin) :
    t.SlotZeroAdmin := by
  cases h with
  | frame _ slots _ journal _ =>
    exact hs.of (State.slot_of_slots_eq slots 0) fun e he => by rwa [journal] at he
  | wire h =>
    have hzero := h.slots 0
    refine ⟨?_, ?_, fun e he => hs.binds e (by rwa [h.rest] at he), fun b w hb => ?_⟩
    · rw [hzero]
      exact hs.vend
    · rw [hzero]
      exact hs.noVend
    · rw [hzero] at hb
      exact hs.staging b w hb
  | slot k f h => exact hs.modSlot fun _ => h
  | admitted k v hp _ => exact hs.modSlot fun hk => absurd hk (hs.desk_of_perm hp)
  | number a n x e rest _ _ k v v' hv _ =>
    have hcommit : ({ s with journal := s.journal.commit a n x e } : State).SlotZeroAdmin :=
      hs.of rfl fun e he => List.mem_of_mem_drop he
    exact hcommit.modSlot fun hk => absurd hk (hs.desk_of_vend (by rw [hv]; exact Option.some_ne_none v))
  | bind e f h _ _ =>
    obtain ⟨x, hx, hb⟩ := h
    exact hs.modSlot fun hk => absurd hk (hq x hx e hb)
  | enqueue e _ hb =>
    refine ⟨hs.vend, hs.noVend, fun e' he' b hbody => ?_, hs.staging⟩
    rcases List.mem_append.mp he' with he' | he'
    · exact hs.binds e' he' b hbody
    · obtain rfl := List.mem_singleton.mp he'
      rcases hb b hbody with hdesk | ⟨w, hw⟩
      · exact hdesk
      · obtain ⟨g, r, hload⟩ := hs.staging _ w hw
        rw [hload] at hbody
        cases hbody
  | unqueue p => exact hs.of rfl fun e he => List.mem_of_mem_filter he
  | commit a n x e rest _ _ => exact hs.of rfl fun e he => List.mem_of_mem_drop he
  | fail j e _ _ _ => exact hs.of rfl fun e he => by cases he
  | eraseFailed p n =>
    obtain ⟨-, -, -, -, -, hqueue, -⟩ := s.journal.setPage_rest p (s.journal.partErase p (Config.failedErase n))
    exact hs.of rfl fun e he => hqueue ▸ he
  | _ => exact hs.of rfl fun _ he => he

/-! ### Compare channel 8 (R96) -/

theorem State.ChannelEight.of (hs : s.ChannelEight)
    (hchannel : t.clock.channels[(0 : Fin 8)] = s.clock.channels[(0 : Fin 8)])
    (hstate : t.float.state = s.float.state) (hexpiry : t.float.work.expiry = s.float.work.expiry) : t.ChannelEight := by
  unfold State.ChannelEight
  rw [hchannel, hstate, hexpiry]
  exact hs

theorem Move.channelEight (h : Move q s t) (hzero : s.SlotZeroAdmin) (hs : s.ChannelEight) : t.ChannelEight := by
  cases h with
  | frame _ _ float _ clock => exact hs.of (by rw [clock]) (by rw [float]) (by rw [float])
  | wire h => exact hs.of (by rw [h.rest]) (by rw [h.rest]) (by rw [h.rest])
  | channel k d h =>
    have hk : k ≠ 0 := h.elim id hzero.desk_of_vend
    exact hs.of (Clock.setChannel_other _ d hk.symm) rfl rfl
  | freeze => exact Clock.setChannel_same _ 0 none
  | judge => exact s.judge_channelEight
  | regrant r => exact State.judge_channelEight _
  | clock c h => exact hs.of h rfl rfl
  | float f hstate hexpiry => exact hs.of rfl hstate hexpiry
  | _ => exact hs.of rfl rfl rfl

/-- Slot 0 and compare channel 8 outside of STARTING. -/
theorem exec_slotZero_running (hrun : s.watch.part ≠ .starting) {i : Instr} (hi : resets i = false)
    (h : exec i s = .next t) (hzero : s.SlotZeroAdmin) (hs : s.ChannelEight) : t.SlotZeroAdmin ∧ t.ChannelEight :=
  (exec_moves hrun hi h).keeps (P := fun u => u.SlotZeroAdmin ∧ u.ChannelEight)
    (fun _ _ m hu => ⟨m.slotZeroAdmin hzero.binds hu.1, m.channelEight hu.1 hu.2⟩) ⟨hzero, hs⟩

/-! ### The settle mark (R111, R131) -/

theorem State.mem_openVends {n : Nat} : n ∈ s.openVends ↔ ∃ k v, (s.slot k).vend = some v ∧ v.number = some n := by
  unfold State.openVends
  rw [List.mem_filterMap]
  constructor
  · rintro ⟨x, hx, hn⟩
    obtain ⟨i, hi, rfl⟩ := Array.mem_iff_getElem.mp (Array.mem_def.mpr hx)
    obtain ⟨v, hv, hn⟩ := Option.bind_eq_some_iff.mp hn
    exact ⟨⟨i, by simpa using hi⟩, v, hv, hn⟩
  · rintro ⟨k, v, hv, hn⟩
    refine ⟨s.slot k, ?_, Option.bind_eq_some_iff.mpr ⟨v, hv, hn⟩⟩
    exact Vector.mem_toList_iff.mpr (Vector.getElem_mem k.isLt)

/-- The settle mark is in order where the numbers stay, the vends are not more, and a program is one there was. -/
theorem State.SettleOrdered.of (hs : s.SettleOrdered) (hmark : t.journal.mark = s.journal.mark)
    (hlast : t.journal.last = s.journal.last) (hheader : t.journal.header = s.journal.header)
    (hop : ∀ a n x, t.journal.op = .program a n x → n = s.journal.last + 1)
    (hvends : ∀ n ∈ t.openVends, n ∈ s.openVends) : t.SettleOrdered where
  mark := by rw [hmark, hlast]; exact hs.mark
  header w h := by
    rw [hheader] at h
    rw [hmark, hlast]
    exact hs.header w h
  program a n x h := by
    rw [hlast]
    exact hop a n x h
  vends v hv := by
    rw [hmark, hlast, hheader]
    exact hs.vends v (hvends v hv)

/-- A slot whose vend keeps its number opens no vend. -/
theorem State.openVends_modSlot {k : SlotNo} {f : Slot → Slot} {P : Nat → Prop} (hP : ∀ n ∈ s.openVends, P n)
    (h : ∀ v n, (f (s.slot k)).vend = some v → v.number = some n → P n) : ∀ n ∈ (s.modSlot k f).openVends, P n := by
  intro n hn
  obtain ⟨j, v, hv, hnumber⟩ := State.mem_openVends.mp hn
  by_cases hj : j = k
  · subst hj
    rw [State.modSlot_slot_same] at hv
    exact h v n hv hnumber
  · rw [State.modSlot_slot_other s f hj] at hv
    exact hP n (State.mem_openVends.mpr ⟨j, v, hv, hnumber⟩)

theorem Slot.Moves.openVends {k : SlotNo} {f : Slot → Slot} (h : (s.slot k).Moves (f (s.slot k))) :
    ∀ n ∈ (s.modSlot k f).openVends, n ∈ s.openVends := by
  refine State.openVends_modSlot (fun _ hn => hn) fun v' n hv' hn => ?_
  obtain ⟨v, hv, hnumber⟩ := h.vend v' hv'
  exact State.mem_openVends.mpr ⟨k, v, hv, hnumber n hn⟩

/-- The target of a SETTLE is below every open vend. -/
theorem State.settle_target (hs : s.SettleOrdered) {n : Nat} (hn : s.journal.mark ≤ n ∧ n ≤ s.journal.last) :
    s.journal.mark ≤ (s.clippingVend n).elim n (· - 1) ∧ (s.clippingVend n).elim n (· - 1) ≤ s.journal.last ∧
      ∀ v ∈ s.openVends, (s.clippingVend n).elim n (· - 1) < v := by
  cases hclip : s.clippingVend n with
  | none =>
    have hnone := List.min?_eq_none_iff.mp hclip
    refine ⟨hn.1, hn.2, fun v hv => ?_⟩
    by_contra hle
    have hmem : v ∈ s.openVends.filter (fun v => decide (v ≤ n)) :=
      List.mem_filter.mpr ⟨hv, decide_eq_true (Nat.not_lt.mp hle)⟩
    rw [hnone] at hmem
    cases hmem
  | some c =>
    obtain ⟨hc, hlow⟩ := List.min?_eq_some_iff.mp hclip
    obtain ⟨hopen, hle⟩ := List.mem_filter.mp hc
    have hcn : c ≤ n := of_decide_eq_true hle
    obtain ⟨hmark, hlast, -⟩ := hs.vends c hopen
    refine ⟨show s.journal.mark ≤ c - 1 by omega, show c - 1 ≤ s.journal.last by omega, fun v hv => ?_⟩
    change c - 1 < v
    by_cases hv' : v ≤ n
    · have := hlow v (List.mem_filter.mpr ⟨hv, decide_eq_true hv'⟩)
      omega
    · omega

/-- A commit takes the next number. -/
theorem State.SettleOrdered.commit (hs : s.SettleOrdered) {a n x : Nat} (hop : s.journal.op = .program a n x) (e : QEntry) :
    ({ s with journal := s.journal.commit a n x e } : State).SettleOrdered := by
  obtain rfl := hs.program a n x hop
  refine ⟨Nat.le_succ_of_le hs.mark, fun w hw => ?_, nofun, fun v hv => ?_⟩
  · obtain ⟨h1, h2⟩ := hs.header w hw
    exact ⟨h1, Nat.le_succ_of_le h2⟩
  · obtain ⟨h1, h2, h3⟩ := hs.vends v hv
    exact ⟨h1, Nat.le_succ_of_le h2, h3⟩

theorem Move.settleOrdered (h : Move q s t) (hs : s.SettleOrdered) : t.SettleOrdered := by
  have hsame : ∀ n ∈ s.openVends, n ∈ s.openVends := fun _ hn => hn
  cases h with
  | frame _ slots _ journal _ =>
    refine hs.of (by rw [journal]) (by rw [journal]) (by rw [journal]) (fun a n x h => hs.program a n x (journal ▸ h)) ?_
    rw [State.openVends, slots]
    exact hsame
  | wire h =>
    have hvend := h.slot_field Slot.vend fun _ _ _ => rfl
    refine hs.of (by rw [h.rest]) (by rw [h.rest]) (by rw [h.rest])
      (fun a n x ho => hs.program a n x (by rw [h.rest] at ho; exact ho)) ?_
    rw [State.openVends_congr hvend]
    exact hsame
  | slot k f h => exact hs.of rfl rfl rfl hs.program h.openVends
  | admitted k v _ hn =>
    refine hs.of rfl rfl rfl hs.program (State.openVends_modSlot hsame fun v' n hv' hn' => ?_)
    cases hv'
    rw [hn] at hn'
    cases hn'
  | number a n x e rest hop _ k v v' hv hn =>
    have hcommit := hs.commit hop e
    obtain rfl := hs.program a n x hop
    refine ⟨hcommit.mark, hcommit.header, nofun, State.openVends_modSlot hcommit.vends fun w m hw hm => ?_⟩
    cases hw
    cases hn.symm.trans hm
    exact ⟨Nat.lt_succ_of_le hs.mark, Nat.le_refl _, fun w hw => Nat.lt_succ_of_le (hs.header w hw).2⟩
  | bind e f _ hv _ =>
    refine hs.of rfl rfl rfl hs.program (State.openVends_modSlot hsame fun v n hv' hn => ?_)
    exact State.mem_openVends.mpr ⟨_, v, hv ▸ hv', hn⟩
  | settle n h =>
    obtain ⟨hmark, hlast, hvends⟩ := State.settle_target hs h
    refine ⟨hs.mark, fun w hw => ?_, hs.program, fun v hv => ?_⟩
    · cases hw
      exact ⟨hmark, hlast⟩
    · obtain ⟨h1, h2, -⟩ := hs.vends v hv
      refine ⟨h1, h2, fun w hw => ?_⟩
      cases hw
      exact hvends v hv
  | settled w hw =>
    obtain ⟨hmark, hlast⟩ := hs.header w hw
    exact ⟨hlast, nofun, hs.program, fun v hv => ⟨(hs.vends v hv).2.2 w hw, (hs.vends v hv).2.1, nofun⟩⟩
  | program a _ _ =>
    refine hs.of rfl rfl rfl (fun b n x h => ?_) hsame
    cases h
    rfl
  | commit a n x e rest hop _ => exact hs.commit hop e
  | fail j e hmark hlast hheader => exact hs.of hmark hlast hheader nofun hsame
  | eraseFailed p n =>
    obtain ⟨-, hmark, hlast, -, -, -, hheader⟩ := s.journal.setPage_rest p (s.journal.partErase p (Config.failedErase n))
    exact hs.of hmark hlast hheader nofun hsame
  | erase | failedProgram | voided | erased | worn | lateVoidMark => exact hs.of rfl rfl rfl nofun hsame
  | _ => exact hs.of rfl rfl rfl hs.program hsame

end

end Sys2Proof.Machine
end

section
/-! PROOFS. What the moves do to the obtainable entry slots (R112), and that outside of STARTING they keep what the Journal
has promised (R110, R117, R119, R121). -/

namespace Sys2Proof.Machine

/-! ### Sums over the pages -/

theorem sum_map_le {f g : Nat → Nat} {l : List Nat} (h : ∀ p ∈ l, f p ≤ g p) : (l.map f).sum ≤ (l.map g).sum := by
  induction l with
  | nil => exact Nat.le_refl 0
  | cons x l ih =>
    simp only [List.map_cons, List.sum_cons]
    exact Nat.add_le_add (h x List.mem_cons_self) (ih fun p hp => h p (List.mem_cons_of_mem x hp))

/-- One page may fall by one. -/
theorem sum_map_le_succ {f g : Nat → Nat} {l : List Nat} {a : Nat} (hl : l.Nodup) (ha : f a ≤ g a + 1)
    (h : ∀ p ∈ l, p ≠ a → f p ≤ g p) : (l.map f).sum ≤ (l.map g).sum + 1 := by
  induction l with
  | nil => exact Nat.zero_le _
  | cons x l ih =>
    obtain ⟨hx, hl⟩ := List.nodup_cons.mp hl
    simp only [List.map_cons, List.sum_cons]
    by_cases hxa : x = a
    · subst hxa
      have hrest := sum_map_le (f := f) (g := g) (l := l) fun p hp =>
        h p (List.mem_cons_of_mem x hp) (fun e => hx (e ▸ hp))
      omega
    · have hrest := ih hl fun p hp => h p (List.mem_cons_of_mem x hp)
      have hhead := h x List.mem_cons_self hxa
      omega

/-! ### What a page adds -/

section
variable {j k : Journal} {p : Nat}

/-- The store lists no entry slot twice, in order. -/
abbrev Journal.Listed (j : Journal) : Prop := Rising (j.store.map (·.1))

theorem Journal.pageKeys_perm (hj : j.Listed) (hk : k.Listed)
    (h : ∀ a, a / 32 = p → (k.content a = none ↔ j.content a = none)) :
    ((k.pageCells p).map (·.1)).Perm ((j.pageCells p).map (·.1)) := by
  refine (List.perm_ext_iff_of_nodup (Journal.pageKeys_nodup hk p) (Journal.pageKeys_nodup hj p)).mpr fun a => ?_
  rw [Journal.mem_pageKeys, Journal.mem_pageKeys]
  exact ⟨fun ⟨hp, ha⟩ => ⟨hp, fun hnone => ha ((h a hp).mpr hnone)⟩, fun ⟨hp, ha⟩ => ⟨hp, fun hnone => ha ((h a hp).mp hnone)⟩⟩

theorem Journal.pageSlots_length_keys (j : Journal) (p : Nat) :
    (j.pageSlots p).length = ((j.pageCells p).map (·.1)).length := by
  rw [Journal.pageSlots_length, List.length_map]

theorem Journal.pageSlots_length_eq (hj : j.Listed) (hk : k.Listed)
    (h : ∀ a, a / 32 = p → (k.content a = none ↔ j.content a = none)) : (k.pageSlots p).length = (j.pageSlots p).length := by
  rw [Journal.pageSlots_length_keys, Journal.pageSlots_length_keys]
  exact (Journal.pageKeys_perm hj hk h).length_eq

theorem Journal.pageSlots_length_le (hj : j.Listed) (p : Nat) : (j.pageSlots p).length ≤ 32 := by
  rw [Journal.pageSlots_length_keys]
  have hsub : (j.pageCells p).map (·.1) ⊆ (List.range 32).map (fun i => p * 32 + i) := by
    intro a ha
    have hp := (Journal.mem_pageKeys.mp ha).1
    exact List.mem_map.mpr ⟨a % 32, List.mem_range.mpr (by omega), by omega⟩
  have hle := ((Journal.pageKeys_nodup hj p).subperm hsub).length_le
  simpa using hle

theorem Journal.pageSettled_iff (hj : j.Listed) : j.pageSettled p = true ↔
    ∀ a e, a / 32 = p → j.content a = some (.written e) → e.number ≤ j.mark := by
  unfold Journal.pageSettled
  rw [List.all_eq_true]
  constructor
  · intro h a e ha he
    exact of_decide_eq_true (h (a, .written e) ((Journal.mem_pageSlots hj).mpr ⟨ha, he⟩))
  · rintro h ⟨a, c⟩ hc
    obtain ⟨ha, he⟩ := (Journal.mem_pageSlots hj).mp hc
    cases c with
    | written e => exact decide_eq_true (h a e ha he)
    | void => rfl
    | halfWritten => rfl

/-- What a page adds, by what is known of it. -/
theorem Journal.pageObtainable_eq (j : Journal) (p : Nat) : j.pageObtainable p =
    if p ∈ j.worn then 0
    else if j.erasingPage p then 32
    else if j.tail = some p ∧ 32 - (j.pageSlots p).length ≠ 0 then 32 - (j.pageSlots p).length
    else if (j.pageSlots p).length = 0 ∨ j.pageSettled p = true then 32
    else 0 := by
  unfold Journal.pageObtainable Journal.pageState Journal.blankCount
  by_cases hworn : p ∈ j.worn
  · simp only [if_pos hworn]
  rw [if_neg hworn, if_neg hworn]
  by_cases herasing : j.erasingPage p = true
  · simp only [if_pos herasing]
  rw [if_neg herasing, if_neg herasing]
  by_cases htail : j.tail = some p ∧ 32 - (j.pageSlots p).length ≠ 0
  · rw [if_pos htail, if_pos htail]
  rw [if_neg htail, if_neg htail]
  by_cases hnil : j.pageSlots p = []
  · rw [if_pos hnil, if_pos (.inl (List.length_eq_zero_iff.mpr hnil))]
  · rw [if_neg hnil]
    by_cases hsettled : j.pageSettled p = true
    · rw [if_pos hsettled, if_pos (.inr hsettled)]
    · rw [if_neg hsettled, if_neg (not_or.mpr ⟨fun h => hnil (List.length_eq_zero_iff.mp h), hsettled⟩)]

/-- A page adds no less when the same entry slots of it are blank and it is settled where it was. -/
theorem Journal.pageObtainable_mono (hj : j.Listed) (hk : k.Listed) (hworn : p ∈ k.worn ↔ p ∈ j.worn)
    (herasing : k.erasingPage p = j.erasingPage p) (htail : k.tail = some p ↔ j.tail = some p)
    (hblank : ∀ a, a / 32 = p → (k.content a = none ↔ j.content a = none))
    (hsettled : j.pageSettled p = true → k.pageSettled p = true) : j.pageObtainable p ≤ k.pageObtainable p := by
  rw [Journal.pageObtainable_eq, Journal.pageObtainable_eq, Journal.pageSlots_length_eq hj hk hblank]
  simp only [hworn, herasing, htail]
  split
  · exact Nat.le_refl _
  · split
    · exact Nat.le_refl _
    · split
      · exact Nat.le_refl _
      · split
        · next h => rw [if_pos (h.imp id hsettled)]
        · exact Nat.zero_le _

/-- A page of which nothing changes. -/
theorem Journal.pageObtainable_same (hj : j.Listed) (hk : k.Listed) (hworn : p ∈ k.worn ↔ p ∈ j.worn)
    (herasing : k.erasingPage p = j.erasingPage p) (htail : k.tail = some p ↔ j.tail = some p) (hmark : j.mark ≤ k.mark)
    (hcontent : ∀ a, a / 32 = p → k.content a = j.content a) : j.pageObtainable p ≤ k.pageObtainable p := by
  refine Journal.pageObtainable_mono hj hk hworn herasing htail (fun a ha => by rw [hcontent a ha]) fun h => ?_
  refine (Journal.pageSettled_iff hk).mpr fun a e ha he => ?_
  rw [hcontent a ha] at he
  exact Nat.le_trans ((Journal.pageSettled_iff hj).mp h a e ha he) hmark

theorem Journal.obtainable_le (h : ∀ p < 128, j.pageObtainable p ≤ k.pageObtainable p) : j.obtainable ≤ k.obtainable :=
  sum_map_le fun p hp => h p (List.mem_range.mp hp)

theorem Journal.obtainable_le_succ {a : Nat} (ha : j.pageObtainable a ≤ k.pageObtainable a + 1)
    (h : ∀ p < 128, p ≠ a → j.pageObtainable p ≤ k.pageObtainable p) : j.obtainable ≤ k.obtainable + 1 :=
  sum_map_le_succ List.nodup_range ha fun p hp => h p (List.mem_range.mp hp)

end

/-! ### What the operations of the store do to it -/

section
variable {j : Journal} {a p : Nat}

theorem Journal.erasingPage_idle {k : Journal} (h : k.op = .idle ∨ (∃ a n x, k.op = .program a n x) ∨ ∃ a, k.op = .voidMark a)
    (p : Nat) : k.erasingPage p = false := by
  unfold Journal.erasingPage
  rcases h with h | ⟨a, n, x, h⟩ | ⟨a, h⟩ <;> rw [h]

theorem Journal.put_listed (hj : j.Listed) (a : Nat) (c : SlotContent) : (j.put a c).Listed := putCell_rising hj a c

/-- An entry slot that is not blank is made void. -/
theorem Journal.obtainable_void (hj : j.Listed) (hop : j.op = .voidMark a) (ha : j.content a ≠ none) :
    j.obtainable ≤ ({ j.put a .void with op := .idle } : Journal).obtainable := by
  have hcontent : ∀ b, ({ j.put a .void with op := .idle } : Journal).content b = if b = a then some .void else j.content b :=
    fun b => Journal.put_content j a b .void
  refine Journal.obtainable_le fun p _ => ?_
  refine Journal.pageObtainable_mono hj (Journal.put_listed hj a .void) Iff.rfl ?_ Iff.rfl (fun b _ => ?_) fun h => ?_
  · rw [Journal.erasingPage_idle (.inl rfl), Journal.erasingPage_idle (.inr (.inr ⟨a, hop⟩))]
  · rw [hcontent]
    split
    · next hb => simp only [hb, ha, reduceCtorEq]
    · rfl
  · refine (Journal.pageSettled_iff (Journal.put_listed hj a .void)).mpr fun b e hb he => ?_
    replace he := (hcontent b).symm.trans he
    split at he
    · cases he
    · exact (Journal.pageSettled_iff hj).mp h b e hb he

/-- A blank entry slot of the tail takes an entry. -/
theorem Journal.obtainable_commit (hj : j.Listed) {n x : Nat} (hop : j.op = .program a n x) (ha : j.content a = none)
    (htail : j.tail = some (a / 32)) (hworn : a / 32 ∉ j.worn) (e : QEntry) :
    j.obtainable ≤ (j.commit a n x e).obtainable + 1 := by
  have hk : (j.commit a n x e).Listed := Journal.put_listed hj a _
  have hcontent : ∀ b, b ≠ a → (j.commit a n x e).content b = j.content b := fun b hb =>
    (Journal.put_content j a b (.written (Entry.sealed n e.slot x e.body))).trans (if_neg hb)
  have herasing : ∀ p, (j.commit a n x e).erasingPage p = j.erasingPage p := fun p => by
    rw [Journal.erasingPage_idle (.inl rfl), Journal.erasingPage_idle (.inr (.inl ⟨a, n, x, hop⟩))]
  refine Journal.obtainable_le_succ (a := a / 32) ?_ fun p _ hp => ?_
  · have hkeys : ((j.commit a n x e).pageSlots (a / 32)).length = (j.pageSlots (a / 32)).length + 1 := by
      rw [Journal.pageSlots_length_keys, Journal.pageSlots_length_keys, ← List.length_cons (a := a)]
      have hnotin : a ∉ (j.pageCells (a / 32)).map (·.1) := fun h => (Journal.mem_pageKeys.mp h).2 ha
      refine ((List.perm_ext_iff_of_nodup (Journal.pageKeys_nodup hk _)
        (List.nodup_cons.mpr ⟨hnotin, Journal.pageKeys_nodup hj _⟩)).mpr fun b => ?_).length_eq
      rw [List.mem_cons, Journal.mem_pageKeys, Journal.mem_pageKeys]
      by_cases hb : b = a
      · subst hb
        have hput : (j.commit b n x e).content b = some _ :=
          (Journal.put_content j b b (.written (Entry.sealed n e.slot x e.body))).trans (if_pos rfl)
        simp [hput]
      · rw [hcontent b hb]
        simp [hb]
    have hfull : (j.pageSlots (a / 32)).length ≠ 32 := fun h => (Journal.pageSlots_full hj).mp h a rfl ha
    have hle := Journal.pageSlots_length_le hj (a / 32)
    have hfilling : j.pageObtainable (a / 32) = 32 - (j.pageSlots (a / 32)).length := by
      rw [Journal.pageObtainable_eq, if_neg hworn, if_neg (by rw [Journal.erasingPage_idle (.inr (.inl ⟨a, n, x, hop⟩))]; nofun),
        if_pos ⟨htail, by omega⟩]
    rw [hfilling, Journal.pageObtainable_eq, hkeys]
    split
    · next h => exact absurd h hworn
    · split
      · next h =>
        rw [Journal.erasingPage_idle (.inl rfl)] at h
        cases h
      · split
        · omega
        · next hnot =>
          have hlast : ¬ 32 - ((j.pageSlots (a / 32)).length + 1) ≠ 0 := fun h => hnot ⟨htail, h⟩
          omega
  · refine Journal.pageObtainable_same hj hk Iff.rfl (herasing p) Iff.rfl (Nat.le_refl _) fun b hb => hcontent b fun h => ?_
    subst h
    exact hp hb.symm

end

end Sys2Proof.Machine
end

section
/-! PROOFS. Every move keeps what the Journal has promised (R110, R117, R119, R121). -/

namespace Sys2Proof.Machine

section
variable {j : Journal} {a p : Nat}

/-! ### Page states read back -/

theorem Journal.pageState_worn (h : p ∈ j.worn) : j.pageState p = .worn := if_pos h

theorem Journal.not_worn_of_state {st : PageState} (h : j.pageState p = st) (hst : st ≠ .worn) : p ∉ j.worn :=
  fun hworn => hst (h.symm.trans (Journal.pageState_worn hworn))

theorem Journal.pageState_filling (hworn : p ∉ j.worn) (herasing : j.erasingPage p = false) (htail : j.tail = some p)
    (hblank : j.blankCount p ≠ 0) : j.pageState p = .filling := by
  unfold Journal.pageState
  rw [if_neg hworn, herasing, if_neg nofun, if_pos ⟨htail, hblank⟩]

theorem Journal.tail_of_filling (h : j.pageState p = .filling) : j.tail = some p := by
  unfold Journal.pageState at h
  split at h
  · cases h
  · split at h
    · cases h
    · split at h
      · next hfilling => exact hfilling.1
      · split at h
        · cases h
        · split at h <;> cases h

theorem Journal.pageObtainable_of_state {st : PageState} (h : j.pageState p = st)
    (hst : st = .erased ∨ st = .erasing ∨ st = .settled) : j.pageObtainable p = 32 := by
  unfold Journal.pageObtainable
  rcases hst with rfl | rfl | rfl <;> rw [h]

theorem Journal.pageObtainable_of_worn (h : p ∈ j.worn) : j.pageObtainable p = 0 := by
  rw [Journal.pageObtainable_eq, if_pos h]

theorem Journal.pageObtainable_of_erasing (hworn : p ∉ j.worn) (h : j.erasingPage p = true) : j.pageObtainable p = 32 := by
  rw [Journal.pageObtainable_eq, if_neg hworn, if_pos h]

/-- A blank page adds 32, as the tail too. -/
theorem Journal.pageObtainable_of_empty (hworn : p ∉ j.worn) (h : (j.pageSlots p).length = 0) : j.pageObtainable p = 32 := by
  rw [Journal.pageObtainable_eq, if_neg hworn, h]
  split
  · rfl
  · split
    · rfl
    · rw [if_pos (.inl rfl)]

/-- A page that is not FILLING, by its store alone. -/
theorem Journal.pageObtainable_unfilled (herasing : j.erasingPage p = false)
    (h : ¬ (p ∉ j.worn ∧ j.tail = some p ∧ 32 - (j.pageSlots p).length ≠ 0)) :
    j.pageObtainable p = if p ∈ j.worn then 0
      else if (j.pageSlots p).length = 0 ∨ j.pageSettled p = true then 32 else 0 := by
  rw [Journal.pageObtainable_eq, herasing]
  split
  · rfl
  · next hworn => rw [if_neg Bool.false_ne_true, if_neg fun hfilling => h ⟨hworn, hfilling⟩]

theorem Journal.erased_of_first (h : j.FirstInOrder .erased p) : j.pageState p = .erased := by
  have hp := List.find?_some (Journal.find_circular.mpr h)
  exact beq_iff_eq.mp hp

theorem Journal.settled_of_oldest (h : j.oldestSettled = some p) : j.pageState p = .settled := by
  have hp := List.find?_some h
  exact beq_iff_eq.mp hp

theorem Journal.slotAtHand_lt (h : j.slotAtHand = some a) : a < 4096 := by
  cases hfill : j.fillingPage with
  | some p =>
    have hp : p < 128 := List.mem_range.mp (List.mem_of_find?_eq_some hfill)
    rw [Journal.slotAtHand_of_filling hfill] at h
    obtain ⟨hpage, -, -⟩ := Journal.lowestBlank_eq_some h
    omega
  | none =>
    rw [Journal.slotAtHand_of_no_filling hfill] at h
    obtain ⟨p, hp, rfl⟩ := Option.map_eq_some_iff.mp h
    have hp : p < 128 := mem_circularFrom.mp (List.mem_of_find?_eq_some hp)
    omega

theorem Journal.slotAtHand_not_worn (h : j.slotAtHand = some a) : a / 32 ∉ j.worn := by
  obtain ⟨-, ⟨hstate, -⟩ | ⟨-, -, hfirst⟩⟩ := Journal.slotAtHand_eq_some h
  · exact Journal.not_worn_of_state hstate nofun
  · exact Journal.not_worn_of_state (Journal.erased_of_first hfirst) nofun

/-! ### Programs and erases -/

/-- A program begins: its page is FILLING now, and the page it was, if another, has no blank entry slot. -/
theorem Journal.obtainable_program (hop : j.op = .idle) (h : j.slotAtHand = some a) (n x : Nat) :
    j.obtainable ≤ ({ j with op := .program a n x, tail := some (a / 32) } : Journal).obtainable := by
  have herasing : ∀ p, j.erasingPage p = false := Journal.erasingPage_idle (.inl hop)
  have herasing' : ∀ p, ({ j with op := .program a n x, tail := some (a / 32) } : Journal).erasingPage p = false :=
    Journal.erasingPage_idle (.inr (.inl ⟨a, n, x, rfl⟩))
  obtain ⟨hnone, hcase⟩ := Journal.slotAtHand_eq_some h
  refine Journal.obtainable_le fun p hp => ?_
  by_cases hpage : p = a / 32
  · subst hpage
    rcases hcase with ⟨hstate, -⟩ | ⟨-, -, hfirst⟩
    · have htail : j.tail = some (a / 32) := Journal.tail_of_filling hstate
      have hsame : ({ j with op := .program a n x, tail := some (a / 32) } : Journal).pageObtainable (a / 32) =
          j.pageObtainable (a / 32) := by
        rw [Journal.pageObtainable_eq, Journal.pageObtainable_eq j, herasing, herasing', htail]
        rfl
      exact hsame.ge
    · have herased := Journal.erased_of_first hfirst
      have hworn := Journal.not_worn_of_state herased nofun
      have hempty : (j.pageSlots (a / 32)).length = 0 := by rw [Journal.pageSlots_of_erased herased]; rfl
      rw [Journal.pageObtainable_of_state herased (.inl rfl),
        Journal.pageObtainable_of_empty (j := { j with op := .program a n x, tail := some (a / 32) })
          hworn hempty]
  · have hnot : ¬ (p ∉ j.worn ∧ j.tail = some p ∧ 32 - (j.pageSlots p).length ≠ 0) := by
      rintro ⟨hworn, htail, hblank⟩
      have hfilling := Journal.pageState_filling hworn (herasing p) htail hblank
      rcases hcase with ⟨hstate, -⟩ | ⟨-, hno, -⟩
      · exact hpage (Option.some.inj (htail.symm.trans (Journal.tail_of_filling hstate)))
      · exact hno p hp hfilling
    rw [Journal.pageObtainable_unfilled (herasing p) hnot, Journal.pageObtainable_unfilled (herasing' p)
      fun ⟨_, ht, _⟩ => hpage (Option.some.inj ht).symm]
    exact Nat.le_refl _

/-- The erase of a SETTLED page begins. -/
theorem Journal.obtainable_erase (hop : j.op = .idle) (h : j.oldestSettled = some p) :
    j.obtainable ≤ ({ j with op := .erase p } : Journal).obtainable := by
  have hsettled := Journal.settled_of_oldest h
  have hworn := Journal.not_worn_of_state hsettled nofun
  refine Journal.obtainable_le fun r _ => ?_
  by_cases hr : r = p
  · subst hr
    rw [Journal.pageObtainable_of_state hsettled (.inr (.inr rfl)),
      Journal.pageObtainable_of_erasing (j := { j with op := .erase r }) hworn (by simp [Journal.erasingPage])]
  · have herasing : ({ j with op := .erase p } : Journal).erasingPage r = j.erasingPage r := by
      rw [Journal.erasingPage_idle (k := j) (.inl hop)]
      exact beq_eq_false_iff_ne.mpr (Ne.symm hr)
    rw [Journal.pageObtainable_eq, Journal.pageObtainable_eq, herasing]
    exact Nat.le_refl _

theorem Journal.erasingPage_erase {k : Journal} (h : k.op = .erase p ∨ k.op = .wornMark p) (r : Nat) :
    k.erasingPage r = (p == r) := by
  unfold Journal.erasingPage
  rcases h with h | h <;> rw [h]

/-- An erase has verified. -/
theorem Journal.obtainable_erased (hj : j.Listed) (hop : j.op = .erase p) :
    j.obtainable ≤ ({ j.blankPage p with op := .idle } : Journal).obtainable := by
  have hk : ({ j.blankPage p with op := .idle } : Journal).Listed := filter_rising hj _
  have hcontent : ∀ b, ({ j.blankPage p with op := .idle } : Journal).content b = if b / 32 = p then none else j.content b :=
    Journal.blankPage_content j p
  refine Journal.obtainable_le fun r _ => ?_
  by_cases hr : r = p
  · subst hr
    have hempty : (({ j.blankPage r with op := .idle } : Journal).pageSlots r).length = 0 := by
      rw [List.length_eq_zero_iff]
      by_contra hne
      obtain ⟨b, hb, hsome⟩ := Journal.pageSlots_ne_nil.mp hne
      exact hsome ((hcontent b).trans (if_pos hb))
    by_cases hworn : r ∈ j.worn
    · rw [Journal.pageObtainable_of_worn hworn]
      exact Nat.zero_le _
    · rw [Journal.pageObtainable_of_erasing hworn (by rw [Journal.erasingPage_erase (.inl hop)]; exact beq_self_eq_true r),
        Journal.pageObtainable_of_empty (j := { j.blankPage r with op := .idle }) hworn hempty]
  · refine Journal.pageObtainable_same hj hk Iff.rfl ?_ Iff.rfl (Nat.le_refl _) fun b hb => ?_
    · rw [Journal.erasingPage_erase (.inl hop), Journal.erasingPage_idle (.inl rfl)]
      exact (beq_eq_false_iff_ne.mpr (Ne.symm hr)).symm
    · rw [hcontent, if_neg (fun h => hr (hb.symm.trans h))]

/-- An erase that does not verify leaves its page under erase until its worn mark. -/
theorem Journal.obtainable_eraseFailed (hj : j.Listed) (hop : j.op = .erase p) {cells : List (Nat × SlotContent)}
    (hcells : ∀ c ∈ cells, c.1 / 32 = p) :
    j.obtainable ≤ ({ j.setPage p cells with op := .wornMark p } : Journal).obtainable := by
  have hk : ({ j.setPage p cells with op := .wornMark p } : Journal).Listed := setPage_rising hj p cells
  obtain ⟨hworn, hmark, -, htail, -⟩ := j.setPage_rest p cells
  have herasing : ∀ r, ({ j.setPage p cells with op := .wornMark p } : Journal).erasingPage r = j.erasingPage r := fun r => by
    rw [Journal.erasingPage_erase (.inr rfl), Journal.erasingPage_erase (.inl hop)]
  refine Journal.obtainable_le fun r _ => ?_
  by_cases hr : r = p
  · subst hr
    have hself : j.erasingPage r = true := by rw [Journal.erasingPage_erase (.inl hop)]; exact beq_self_eq_true r
    by_cases hr : r ∈ j.worn
    · rw [Journal.pageObtainable_of_worn hr]
      exact Nat.zero_le _
    · rw [Journal.pageObtainable_of_erasing hr hself,
        Journal.pageObtainable_of_erasing (j := { j.setPage r cells with op := .wornMark r })
          (fun h => hr (hworn ▸ h)) ((herasing r).trans hself)]
  · refine Journal.pageObtainable_same hj hk ?_ (herasing r) ?_ hmark.ge fun b hb => ?_
    · change r ∈ (j.setPage p cells).worn ↔ _
      rw [hworn]
    · change (j.setPage p cells).tail = _ ↔ _
      rw [htail]
    · exact Journal.setPage_content_other hcells (fun h => hr (hb.symm.trans h))

/-- The settle mark rises. -/
theorem Journal.obtainable_settled (hj : j.Listed) {m : Nat} (hm : j.mark ≤ m) :
    j.obtainable ≤ ({ j with mark := m, header := none } : Journal).obtainable :=
  Journal.obtainable_le fun _ _ =>
    Journal.pageObtainable_same (k := { j with mark := m, header := none }) hj hj Iff.rfl rfl Iff.rfl hm fun _ _ => rfl

end

end Sys2Proof.Machine
end

section
/-! PROOFS. Outside of STARTING every command keeps what the Journal has promised. -/

namespace Sys2Proof.Machine

/-- What the Journal has promised outside of STARTING; in NORMAL mode its store is listed in order. -/
structure Journal.Kept (j : Journal) : Prop where
  atHand   : ∀ a n x, j.op = .program a n x → j.content a = none ∧ j.tail = some (a / 32) ∧ a / 32 ∉ j.worn ∧ a < 4096
  reserves : ∀ e ∈ j.queue, e.reserved = true
  marking  : ∀ a, j.op = .voidMark a → j.content a ≠ none
  reserved : j.mode = .normal → j.reserved ≤ j.obtainable
  listed   : j.mode = .normal → j.Listed

theorem State.PromisesKept.kept {s : State} (h : s.PromisesKept) (hs : s.watch.part ≠ .starting)
    (hcells : s.journal.Listed) : s.journal.Kept :=
  ⟨h.atHand, h.reserves hs, h.marking hs, h.reserved, fun _ => hcells⟩

theorem Journal.Kept.promises {s : State} (h : s.journal.Kept) : s.PromisesKept :=
  ⟨h.atHand, fun _ => h.reserves, fun _ => h.marking, h.reserved⟩

section
variable {q : List QEntry} {s t : State} {j : Journal}

/-- An operation of the store ends, and the Journal begins nothing. -/
theorem Journal.Kept.ended {k : Journal} (h : j.Kept) (hop : k.op = .idle ∨ (∃ p, k.op = .erase p) ∨ ∃ p, k.op = .wornMark p)
    (hqueue : k.queue = j.queue) (hmode : k.mode = j.mode) (hreserved : k.reserved = j.reserved)
    (hle : j.Listed → j.obtainable ≤ k.obtainable) (hlisted : j.Listed → k.Listed) : k.Kept where
  atHand a n x ho := by rcases hop with hop | ⟨p, hop⟩ | ⟨p, hop⟩ <;> cases hop.symm.trans ho
  reserves e he := h.reserves e (hqueue ▸ he)
  marking a ho := by rcases hop with hop | ⟨p, hop⟩ | ⟨p, hop⟩ <;> cases hop.symm.trans ho
  reserved hn := by
    rw [hreserved]
    exact Nat.le_trans (h.reserved (hmode ▸ hn)) (hle (h.listed (hmode ▸ hn)))
  listed hn := hlisted (h.listed (hmode ▸ hn))

theorem Journal.Kept.enqueue (h : j.Kept) {e : QEntry} (he : e.reserved = true) :
    ({ j with queue := j.queue ++ [e] } : Journal).Kept where
  atHand := h.atHand
  reserves x hx := by
    rcases List.mem_append.mp hx with hx | hx
    · exact h.reserves x hx
    · rw [List.mem_singleton.mp hx]
      exact he
  marking := h.marking
  reserved := h.reserved
  listed := h.listed

theorem Journal.Kept.reserve (h : j.Kept) {n : Nat} (hn : n ≤ j.reserved ∨ j.mode = .normal ∧ n ≤ j.obtainable) :
    ({ j with reserved := n } : Journal).Kept where
  atHand := h.atHand
  reserves := h.reserves
  marking := h.marking
  reserved hmode := by
    rcases hn with hn | ⟨-, hn⟩
    · exact Nat.le_trans hn (h.reserved hmode)
    · exact hn
  listed := h.listed

theorem Journal.Kept.program (h : j.Kept) (hop : j.op = .idle) {a : Nat} (ha : j.slotAtHand = some a) (n x : Nat) :
    ({ j with op := .program a n x, tail := some (a / 32) } : Journal).Kept where
  atHand b m y ho := by
    cases ho
    have hworn := Journal.slotAtHand_not_worn ha
    exact ⟨(Journal.slotAtHand_eq_some ha).1, rfl, hworn, Journal.slotAtHand_lt ha⟩
  reserves := h.reserves
  marking := nofun
  reserved hmode := Nat.le_trans (h.reserved hmode) (Journal.obtainable_program hop ha n x)
  listed := h.listed

theorem Journal.Kept.commit (h : j.Kept) {a n x : Nat} (hop : j.op = .program a n x) {e : QEntry} {rest : List QEntry}
    (hqueue : j.queue = e :: rest) : (j.commit a n x e).Kept where
  atHand := nofun
  reserves y hy := h.reserves y (List.mem_of_mem_drop hy)
  marking := nofun
  reserved hmode := by
    obtain ⟨hnone, htail, hworn, -⟩ := h.atHand a n x hop
    have hle := Journal.obtainable_commit (h.listed hmode) hop hnone htail hworn e
    have hkept := h.reserved hmode
    have he : e.reserved = true := h.reserves e (hqueue ▸ List.mem_cons_self)
    have hreserved : (j.commit a n x e).reserved = j.reserved - 1 := if_pos he
    rw [hreserved]
    omega
  listed hmode := Journal.put_listed (h.listed hmode) a _

theorem Journal.Kept.failedProgram (h : j.Kept) {a : Nat}
    (hle : ({ j.put a .halfWritten with op := .idle } : Journal).promisesTooMuch = false) :
    ({ j.put a .halfWritten with op := .voidMark a } : Journal).Kept where
  atHand := nofun
  reserves := h.reserves
  marking b ho := by
    cases ho
    have hput := Journal.put_content j a a .halfWritten
    rw [if_pos rfl] at hput
    intro hnone
    exact absurd (hput.symm.trans hnone) nofun
  reserved _ := Nat.not_lt.mp (of_decide_eq_false hle)
  listed hmode := Journal.put_listed (h.listed hmode) a _

theorem Move.kept (h : Move q s t) (hs : s.SettleOrdered) (hk : s.journal.Kept) : t.journal.Kept := by
  cases h with
  | frame _ _ _ journal _ => rwa [journal]
  | wire h =>
    rw [h.rest]
    exact hk
  | enqueue e he _ => exact hk.enqueue he
  | unqueue p => exact ⟨hk.atHand, fun e he => hk.reserves e (List.mem_of_mem_filter he), hk.marking, hk.reserved, hk.listed⟩
  | reserved n hn => exact hk.reserve hn
  | settle | once => exact ⟨hk.atHand, hk.reserves, hk.marking, hk.reserved, hk.listed⟩
  | settled w hw =>
    refine ⟨hk.atHand, hk.reserves, hk.marking, fun hmode => ?_, hk.listed⟩
    exact Nat.le_trans (hk.reserved hmode) (Journal.obtainable_settled (hk.listed hmode) (hs.header w hw).1)
  | program a hop ha => exact hk.program hop ha _ _
  | erase p hop hp =>
    exact hk.ended (.inr (.inl ⟨p, rfl⟩)) rfl rfl rfl (fun _ => Journal.obtainable_erase hop hp) id
  | number a n x e rest hop hqueue k v v' _ _ => exact hk.commit hop hqueue
  | commit a n x e rest hop hqueue => exact hk.commit hop hqueue
  | failedProgram a n x _ hle => exact hk.failedProgram hle
  | voided a hop =>
    exact hk.ended (.inl rfl) rfl rfl rfl (fun hj => Journal.obtainable_void hj hop (hk.marking a hop))
      fun hj => Journal.put_listed hj a _
  | erased p hop =>
    exact hk.ended (.inl rfl) rfl rfl rfl (fun hj => Journal.obtainable_erased hj hop) fun hj => filter_rising hj _
  | eraseFailed p n hop =>
    obtain ⟨-, -, -, -, hmode, hqueue, -⟩ := s.journal.setPage_rest p (s.journal.partErase p (Config.failedErase n))
    refine hk.ended (.inr (.inr ⟨p, rfl⟩)) hqueue hmode ?_
      (fun hj => Journal.obtainable_eraseFailed hj hop (fun c hc => partErase_page hc)) fun hj => setPage_rising hj p _
    change (s.journal.setPage p _).reserved = _
    rw [Journal.setPage_eq]
  | worn p _ hle =>
    refine ⟨nofun, hk.reserves, nofun, fun _ => Nat.not_lt.mp (of_decide_eq_false hle), fun hmode => ?_⟩
    exact filter_rising (hk.listed hmode) _
  | fail j e _ _ _ => exact ⟨nofun, fun e he => (nomatch he), nofun, nofun, nofun⟩
  | lateVoidMark a hmode ha =>
    refine ⟨nofun, hk.reserves, fun b hb => ?_, fun h => ?_, hk.listed⟩
    · cases hb
      exact ha
    · exact absurd (h.symm.trans hmode) nofun
  | _ => exact hk

/-- Outside of STARTING every command keeps the settle mark in order. -/
theorem exec_settleOrdered (hrun : s.watch.part ≠ .starting) {i : Instr} (hi : resets i = false) (h : exec i s = .next t)
    (hs : s.SettleOrdered) : t.SettleOrdered := (exec_moves hrun hi h).keeps (fun _ _ m => m.settleOrdered) hs

theorem exec_promises_running (hrun : s.watch.part ≠ .starting) {i : Instr} (hi : resets i = false)
    (h : exec i s = .next t) (hs : s.SettleOrdered) (hk : s.journal.Kept) : t.journal.Kept :=
  ((exec_moves hrun hi h).keeps (P := fun u => u.SettleOrdered ∧ u.journal.Kept)
    (fun _ _ m hu => ⟨m.settleOrdered hu.1, m.kept hu.1 hu.2⟩) ⟨hs, hk⟩).2

end

end Sys2Proof.Machine
end

section
/-! PROOFS. In STARTING the recovery scan runs alone (R33, R56, R93, R105, R119, R135, R154, R172): the scan's own steps, what
the Journal begins for it, and its end. -/

namespace Sys2Proof.Machine

/-! ### What is kept from the first cold start to RUN -/

/-- A program's entry slot is a blank one of the tail (R110, R117). -/
def Journal.AtHand (j : Journal) : Prop := ∀ a n x, j.op = .program a n x →
  j.content a = none ∧ j.tail = some (a / 32) ∧ a / 32 ∉ j.worn ∧ a < 4096

/-- No slot has anything under way. -/
def State.SlotsStill (s : State) : Prop := ∀ k : SlotNo, (s.slot k).vend = none ∧ (s.slot k).admin = none ∧
  (s.slot k).pendingChange = none ∧ ((s.slot k).state = .idle ∨ (s.slot k).state = .unbound)

/-- The scan has ended and nothing is under way: the part as it leaves STARTING, an erase aside. -/
structure State.Quiet (s : State) : Prop where
  slots  : s.SlotsStill
  unit   : s.engine.unit = none ∧ s.former.transform = none
  claims : s.journal.reserved = 0 ∧ s.float.reservations = [] ∧ s.journal.header = none
  queue  : s.journal.queue = []
  op     : s.journal.op = .idle ∨ ∃ p, s.journal.op = .erase p
  floats : ∀ w ∈ s.float.writes, w.done = .nothing
  writes : s.meters.writes = [] ∧ s.tariff.write = none ∧ s.clock.settingsWrite = none ∧ s.former.keyWrite = none
  stage  : s.watch.scan.stage = .ended

/-- The scan runs alone, or has just ended. -/
def State.Scans (s : State) : Prop := (s.watch.part = .starting → s.ScanAlone) ∧ (s.watch.part ≠ .starting → s.Quiet)

/-- What the other invariants need of a change in STARTING. -/
structure State.ScanKeeps (s t : State) : Prop where
  eight  : s.ChannelEight → t.ChannelEight
  perms  : ∀ k, (t.slot k).perms = (s.slot k).perms
  atHand : s.journal.AtHand → t.journal.AtHand

theorem State.ScanKeeps.refl (s : State) : s.ScanKeeps s := ⟨id, fun _ => rfl, id⟩

theorem State.ScanKeeps.trans {s t u : State} (h : s.ScanKeeps t) (g : t.ScanKeeps u) : s.ScanKeeps u :=
  ⟨g.eight ∘ h.eight, fun k => (g.perms k).trans (h.perms k), g.atHand ∘ h.atHand⟩

/-- A change in STARTING that keeps the scan alone. -/
def State.ScansTo (s t : State) : Prop := t.Scans ∧ s.ScanKeeps t

theorem State.ScansTo.after {s t u : State} (h : s.ScanKeeps t) (g : t.ScansTo u) : s.ScansTo u := ⟨g.1, h.trans g.2⟩

theorem State.ScansTo.refl {s : State} (h : s.Scans) : s.ScansTo s := ⟨h, .refl s⟩

theorem State.scans_of_alone {s : State} (hs : s.watch.part = .starting) (h : s.ScanAlone) : s.Scans :=
  ⟨fun _ => h, fun hn => absurd hs hn⟩

theorem State.Scans.alone {s : State} (h : s.Scans) (hs : s.watch.part = .starting) : s.ScanAlone := h.1 hs

section
variable {s t : State}

theorem State.ScanAlone.still (h : s.ScanAlone) : s.SlotsStill := h.slots

/-- The slots, the float state with its expiry, and channel 8 stay. -/
theorem State.ScanKeeps.of (hslots : t.slots = s.slots) (hchannel : t.clock.channels[(0 : Fin 8)] = s.clock.channels[(0 : Fin 8)])
    (hstate : t.float.state = s.float.state) (hexpiry : t.float.work.expiry = s.float.work.expiry)
    (hatHand : s.journal.AtHand → t.journal.AtHand) : s.ScanKeeps t :=
  ⟨fun h => h.of hchannel hstate hexpiry, fun k => by rw [State.slot_of_slots_eq hslots], hatHand⟩

/-- While the float is FROZEN its expiry may change. -/
theorem State.ScanKeeps.of_frozen (hslots : t.slots = s.slots)
    (hchannel : t.clock.channels[(0 : Fin 8)] = s.clock.channels[(0 : Fin 8)]) (hs : s.float.state = .frozen)
    (ht : t.float.state = .frozen) (hatHand : s.journal.AtHand → t.journal.AtHand) : s.ScanKeeps t := by
  refine ⟨fun h => ?_, fun k => by rw [State.slot_of_slots_eq hslots], hatHand⟩
  unfold State.ChannelEight at h ⊢
  rw [hs] at h
  rw [hchannel, ht]
  exact h

theorem Journal.atHand_idle {j : Journal} (h : ∀ a n x, j.op ≠ .program a n x) : j.AtHand := fun a n x ho => absurd ho (h a n x)

/-! ### The scan between two operations of the store -/

/-- The scan, in a stage before the judgement, has nothing in the queue and no record write owed. -/
structure State.ScanRests (s : State) : Prop where
  part   : s.watch.part = .starting
  slots  : s.SlotsStill
  unit   : s.engine.unit = none ∧ s.former.transform = none
  claims : s.journal.reserved = 0 ∧ s.float.reservations = [] ∧ s.journal.header = none
  queue  : s.journal.queue = []
  floats : ∀ w ∈ s.float.writes, w.done = .nothing
  writes : s.meters.writes = [] ∧ s.tariff.write = none ∧ s.clock.settingsWrite = none ∧ s.former.keyWrite = none
  frozen : s.float.state = .frozen

theorem State.ScanRests.owners (h : s.ScanRests) : (∀ w ∈ s.meters.writes, w.owner = .replay) ∧
    (∀ w ∈ s.float.writes, w.done = .nothing) ∧ (∀ w, s.clock.settingsWrite = some w → w.live = false) ∧
      ∀ g gen, s.former.keyWrite ≠ some (.stage g gen) := by
  obtain ⟨h1, -, h3, h4⟩ := h.writes
  refine ⟨fun w hw => ?_, h.floats, fun w hw => ?_, fun g gen hw => ?_⟩
  · rw [h1] at hw
    cases hw
  · cases h3.symm.trans hw
  · cases h4.symm.trans hw

/-- The clause of ScanAlone on the queue. -/
theorem State.ScanRests.waiting (h : s.ScanRests) : s.journal.queue.length ≤ 1 ∧ ∀ e ∈ s.journal.queue, e.reserved = false ∧
    ((∃ d, e.body = .vendEnd d) ∨ ∃ kind a b, e.body = .start kind a b) := by
  rw [h.queue]
  exact ⟨Nat.zero_le 1, nofun⟩

/-- An entry of the scan joins the empty queue. -/
theorem State.ScanRests.enqueue (h : s.ScanRests) {st : ScanStage} (hst : st = .closing ∨ st = .starting) {e : QEntry}
    (he : e.reserved = false) (hbody : (∃ d, e.body = .vendEnd d) ∨ ∃ kind a b, e.body = .start kind a b) :
    s.ScansTo ((s.setStage st).enqueue e) := by
  have hqueue : ((s.setStage st).enqueue e).journal.queue = [e] := by
    rw [State.enqueue_queue, State.setStage_journal, h.queue, List.nil_append]
  have hplaces : ((s.setStage st).enqueue e).watch.scan.stage.places := hst
  refine ⟨State.scans_of_alone h.part ⟨h.slots, h.unit, h.claims, ?_, .inl hplaces, .inl hplaces, h.owners, .inr h.writes,
    .inr h.frozen⟩, .of rfl rfl rfl rfl id⟩
  rw [hqueue]
  refine ⟨Nat.le_refl 1, fun x hx => ?_⟩
  obtain rfl := List.mem_singleton.mp hx
  exact ⟨he, hbody⟩

theorem State.scanClose_scans (h : s.ScanRests) : s.ScansTo s.scanClose := by
  unfold State.scanClose
  split
  · exact h.enqueue (.inl rfl) rfl (.inl ⟨_, rfl⟩)
  · exact h.enqueue (.inr rfl) rfl (.inr ⟨_, _, _, rfl⟩)

/-- The scan rests before its fifth step: the store's operation is its own and no program has failed. -/
structure State.ScanSteps (s : State) : Prop extends s.ScanRests where
  op   : s.journal.op = .idle
  once : s.journal.failedOnce = false

theorem State.scanClear_scans (h : s.ScanSteps) : s.ScansTo s.scanClear := by
  unfold State.scanClear
  split
  · next g _ =>
    obtain ⟨h1, h2, h3, -⟩ := h.owners
    exact ⟨State.scans_of_alone h.part ⟨h.slots, h.unit, h.claims, h.waiting, .inr ⟨h.queue, h.once⟩, .inr (.inl h.op),
      ⟨h1, h2, h3, nofun⟩, .inl (.inl rfl), .inr h.frozen⟩, .of rfl rfl rfl rfl id⟩
  · dsimp only
    split
    · have hrests : ({ s with clock := { s.clock with month := s.clock.settingsMonth } } : State).ScanRests :=
        ⟨h.part, h.slots, h.unit, h.claims, h.queue, h.floats, h.writes, h.frozen⟩
      have hmonth : s.ScanKeeps { s with clock := { s.clock with month := s.clock.settingsMonth } } := .of rfl rfl rfl rfl id
      exact .after hmonth (State.scanClose_scans hrests)
    · exact State.scanClose_scans h.toScanRests

/-- What a replayed entry changes: the record writes owed, the float's working copy, the clock but for its channels. -/
structure State.Replays (s u : State) : Prop where
  watch     : u.watch = s.watch
  slots     : u.slots = s.slots
  engine    : u.engine = s.engine
  transform : u.former.transform = s.former.transform
  journal   : u.journal = s.journal
  float     : u.float.reservations = s.float.reservations ∧ u.float.state = s.float.state
  channels  : u.clock.channels = s.clock.channels
  owners    : (∀ w ∈ u.meters.writes, w.owner = .replay) ∧ (∀ w ∈ u.float.writes, w.done = .nothing) ∧
    (∀ w, u.clock.settingsWrite = some w → w.live = false) ∧ ∀ g gen, u.former.keyWrite ≠ some (.stage g gen)

theorem State.ScanSteps.replays (h : s.ScanSteps) {u : State} (hu : s.Replays u) (rest : List Entry) :
    s.ScansTo (u.countReplay rest) := by
  have hstill : u.SlotsStill := fun k => by
    rw [State.slot_of_slots_eq hu.slots k]
    exact h.slots k
  refine ⟨State.scans_of_alone ?_ ⟨hstill, ?_, ?_, ?_, .inr ?_, .inr (.inl ?_), hu.owners, .inl (.inr ⟨rest, rfl⟩), .inr ?_⟩, ?_⟩
  · exact (congrArg Watch.part hu.watch).trans h.part
  · change u.engine.unit = none ∧ u.former.transform = none
    rw [hu.engine, hu.transform]
    exact h.unit
  · change u.journal.reserved = 0 ∧ u.float.reservations = [] ∧ u.journal.header = none
    rw [hu.journal, hu.float.1]
    exact h.claims
  · change u.journal.queue.length ≤ 1 ∧ ∀ e ∈ u.journal.queue, _
    rw [hu.journal]
    exact h.waiting
  · change u.journal.queue = [] ∧ u.journal.failedOnce = false
    rw [hu.journal]
    exact ⟨h.queue, h.once⟩
  · exact (congrArg Journal.op hu.journal).trans h.op
  · exact hu.float.2.trans h.frozen
  · refine .of_frozen hu.slots ?_ h.frozen (hu.float.2.trans h.frozen) fun hat => ?_
    · change u.clock.channels[(0 : Fin 8)] = _
      rw [hu.channels]
    · change u.journal.AtHand
      rwa [hu.journal]

theorem State.ScanSteps.oweMeterWrite (h : s.ScanSteps) {w : MeterWrite} (hw : w.owner = .replay) :
    s.Replays (s.oweMeterWrite w) := by
  obtain ⟨-, h2, h3, h4⟩ := h.owners
  refine ⟨rfl, rfl, rfl, rfl, rfl, ⟨rfl, rfl⟩, rfl, fun x hx => ?_, h2, h3, h4⟩
  rw [State.oweMeterWrite_writes, h.writes.1, List.nil_append] at hx
  rwa [List.mem_singleton.mp hx]

theorem State.ScanSteps.replayMeter (h : s.ScanSteps) {u : State} {m n : Nat} {c : MeterRecord → RecordChange}
    (hu : s.replayMeter m n c = some u) : s.Replays u := by
  unfold State.replayMeter at hu
  split at hu
  · cases hu
  · split at hu
    · cases hu
      exact h.oweMeterWrite rfl
    · cases hu

theorem State.ScanSteps.replayFloat (h : s.ScanSteps) {u : State} {n : Nat} {r : FloatRecord}
    (hu : s.replayFloat n r = some u) : s.Replays u := by
  unfold State.replayFloat at hu
  split at hu
  · cases hu
    obtain ⟨h1, h2, h3, h4⟩ := h.owners
    refine ⟨rfl, rfl, rfl, rfl, rfl, ⟨rfl, rfl⟩, rfl, h1, fun x hx => ?_, h3, h4⟩
    rcases List.mem_append.mp hx with hx | hx
    · exact h2 x hx
    · rw [List.mem_singleton.mp hx]
  · cases hu

theorem Clock.replay_channels (c : Clock) (o w m n : Nat) : (c.replay o w m n).channels = c.channels := by
  unfold Clock.replay
  split <;> rfl

theorem State.ScanSteps.replayClock (h : s.ScanSteps) {u : State} {o w m n : Nat}
    (hu : s.replayClock o w m n = some u) : s.Replays u := by
  unfold State.replayClock at hu
  obtain ⟨h1, h2, -, h4⟩ := h.owners
  split at hu
  · cases hu
    refine ⟨rfl, rfl, rfl, rfl, rfl, ⟨rfl, rfl⟩, ?_, h1, h2, fun x hx => ?_, h4⟩
    · dsimp only
      split
      · exact Clock.replay_channels _ _ _ _ _
      · rfl
    · cases hx
      rfl
  · cases hu

theorem State.replay_replays (h : s.ScanSteps) {e : Entry} {u : State} (hu : s.replay? e = some u) : s.Replays u := by
  obtain ⟨h1, h2, h3, h4⟩ := h.owners
  unfold State.replay? at hu
  split at hu
  · exact h.replayMeter hu
  · exact h.replayMeter hu
  · split at hu
    · cases hu
    · cases hu
      exact h.oweMeterWrite rfl
  · exact h.replayMeter hu
  · exact h.replayMeter hu
  · exact h.replayMeter hu
  · exact h.replayFloat hu
  · exact h.replayFloat hu
  · exact h.replayFloat hu
  · dsimp only at hu
    split at hu
    · cases hu
      exact ⟨rfl, rfl, rfl, rfl, rfl, ⟨rfl, rfl⟩, rfl, h1, h2, h3, nofun⟩
    · cases hu
  · split at hu
    · cases hu
      exact ⟨rfl, rfl, rfl, rfl, rfl, ⟨rfl, rfl⟩, rfl, h1, h2, h3, h4⟩
    · cases hu
  · exact h.replayClock hu
  all_goals cases hu

theorem State.scanReplay_scans (h : s.ScanSteps) (l : List Entry) : s.ScansTo (s.scanReplay l) := by
  induction l with
  | nil => exact State.scanClear_scans h
  | cons e rest ih =>
    unfold State.scanReplay
    split
    · next u hu => exact h.replays (State.replay_replays h hu) rest
    · exact ih

theorem State.scanErase_scans (h : s.ScanSteps) (l : List Nat) : s.ScansTo (s.scanErase l) := by
  cases l with
  | nil =>
    have hsteps : s.setJournalState.ScanSteps := by
      refine ⟨⟨h.part, h.slots, h.unit, h.claims, h.queue, h.floats, ?_, h.frozen⟩, h.op, h.once⟩
      obtain ⟨h1, h2, h3, h4⟩ := h.writes
      refine ⟨h1, h2, ?_, h4⟩
      unfold State.setJournalState
      dsimp only
      split <;> exact h3
    refine .after ?_ (State.scanReplay_scans hsteps s.setJournalState.journal.entries)
    refine .of rfl ?_ rfl rfl fun _ => Journal.atHand_idle fun a n x ho => ?_
    · unfold State.setJournalState
      dsimp only
      split <;> rfl
    · cases h.op.symm.trans ho
  | cons p rest =>
    exact ⟨State.scans_of_alone h.part ⟨h.slots, h.unit, h.claims, h.waiting, .inr ⟨h.queue, h.once⟩,
      .inr (.inr (.inr ⟨p :: rest, p, rfl, .inl rfl⟩)), h.owners, .inr h.writes, .inr h.frozen⟩,
      .of rfl rfl rfl rfl fun _ => Journal.atHand_idle nofun⟩

theorem State.scanVoid_scans (h : s.ScanSteps) (l : List Nat) : s.ScansTo (s.scanVoid l) := by
  cases l with
  | nil => exact State.scanErase_scans h _
  | cons a rest =>
    exact ⟨State.scans_of_alone h.part ⟨h.slots, h.unit, h.claims, h.waiting, .inr ⟨h.queue, h.once⟩,
      .inr (.inr (.inl ⟨a :: rest, a, rfl, rfl⟩)), h.owners, .inr h.writes, .inr h.frozen⟩,
      .of rfl rfl rfl rfl fun _ => Journal.atHand_idle nofun⟩

/-! ### The scan goes on -/

/-- A stage in which the scan has begun and places no entry yet. -/
def ScanStage.early : ScanStage → Bool
  | .closing => false
  | .starting => false
  | .ended => false
  | _ => true

theorem ScanStage.early_iff {st : ScanStage} : st.early = true ↔ ¬ st.places ∧ st ≠ .ended := by
  unfold ScanStage.places
  cases st <;> simp [ScanStage.early]

/-- The records' writes are none: the stage writes none, or none is under way. -/
theorem State.ScanAlone.unwritten (h : s.ScanAlone) (hwrites : ¬ s.watch.scan.stage.writes ∨ s.noWrites = true) :
    s.meters.writes = [] ∧ s.tariff.write = none ∧ s.clock.settingsWrite = none ∧ s.former.keyWrite = none := by
  rcases hwrites with hwrites | hwrites
  · exact h.writes.resolve_left hwrites
  · unfold State.noWrites at hwrites
    simp only [Bool.and_eq_true, List.isEmpty_iff, Option.isNone_iff_eq_none] at hwrites
    obtain ⟨⟨⟨⟨h1, -⟩, h2⟩, h3⟩, h4⟩ := hwrites
    exact ⟨h1, h2, h3, h4⟩

/-- The scan rests when its queue is empty and no write of a record is under way. -/
theorem State.ScanAlone.rests (h : s.ScanAlone) (hs : s.watch.part = .starting) (hended : s.watch.scan.stage ≠ .ended)
    (hqueue : s.journal.queue = []) (hwrites : ¬ s.watch.scan.stage.writes ∨ s.noWrites = true) : s.ScanRests :=
  ⟨hs, h.slots, h.unit, h.claims, hqueue, h.owners.2.1, h.unwritten hwrites, h.frozen.resolve_left hended⟩

theorem State.ScanAlone.steps (h : s.ScanAlone) (hs : s.watch.part = .starting) (hearly : s.watch.scan.stage.early = true)
    (hwrites : ¬ s.watch.scan.stage.writes ∨ s.noWrites = true) (hop : s.journal.op = .idle) : s.ScanSteps := by
  obtain ⟨hplaces, hended⟩ := ScanStage.early_iff.mp hearly
  obtain ⟨hqueue, honce⟩ := h.placing.resolve_left hplaces
  exact ⟨h.rests hs hended hqueue hwrites, hop, honce⟩

/-- In a stage that neither voids, erases nor places, the store does nothing. -/
theorem State.ScanAlone.idle (h : s.ScanAlone) (hearly : s.watch.scan.stage.early = true)
    (hvoid : ∀ rest, s.watch.scan.stage ≠ .voiding rest) (herase : ∀ rest, s.watch.scan.stage ≠ .erasing rest) :
    s.journal.op = .idle := by
  rcases h.op.resolve_left (ScanStage.early_iff.mp hearly).1 with hop | ⟨rest, _, hst, -⟩ | ⟨rest, _, hst, -⟩
  · exact hop
  · exact absurd hst (hvoid rest)
  · exact absurd hst (herase rest)

theorem State.scanAdvance_scans (h : s.ScanAlone) (hs : s.watch.part = .starting) : s.ScansTo s.scanAdvance := by
  have hstay : s.ScansTo s := .refl (State.scans_of_alone hs h)
  have hearly {st : ScanStage} (hst : s.watch.scan.stage = st) (hst' : st.early = true) : s.watch.scan.stage.early = true :=
    hst ▸ hst'
  have hunwritten {st : ScanStage} (hst : s.watch.scan.stage = st) (hst' : ¬ st.writes) : ¬ s.watch.scan.stage.writes :=
    hst ▸ hst'
  unfold State.scanAdvance
  split
  · exact hstay
  · split
    · exact hstay
    · next hst =>
      have hop := h.idle (hearly hst rfl) (fun _ => hst ▸ nofun) (fun _ => hst ▸ nofun)
      exact State.scanVoid_scans (h.steps hs (hearly hst rfl) (.inl (hunwritten hst (by simp [ScanStage.writes]))) hop) _
    · next rest hst =>
      split
      · next hop =>
        exact State.scanVoid_scans (h.steps hs (hearly hst rfl) (.inl (hunwritten hst (by simp [ScanStage.writes]))) hop) _
      · exact hstay
    · next rest hst =>
      split
      · next hop =>
        exact State.scanErase_scans (h.steps hs (hearly hst rfl) (.inl (hunwritten hst (by simp [ScanStage.writes]))) hop) _
      · exact hstay
    · next rest hst =>
      split
      · next hnone =>
        have hop := h.idle (hearly hst rfl) (fun _ => hst ▸ nofun) (fun _ => hst ▸ nofun)
        exact State.scanReplay_scans (h.steps hs (hearly hst rfl) (.inr hnone) hop) _
      · exact hstay
    · next hst =>
      split
      · next hnone =>
        have hop := h.idle (hearly hst rfl) (fun _ => hst ▸ nofun) (fun _ => hst ▸ nofun)
        exact State.scanClear_scans (h.steps hs (hearly hst rfl) (.inr hnone) hop)
      · exact hstay
    · next hst =>
      split
      · next hqueue =>
        exact State.scanClose_scans (h.rests hs (hst ▸ nofun) hqueue (.inl (hunwritten hst (by simp [ScanStage.writes]))))
      · exact hstay
    · exact hstay
    · exact hstay

end

end Sys2Proof.Machine
end

section
/-! PROOFS. In STARTING the recovery scan runs alone: its end, FAILED mode, what the Journal begins, and what the part does by
itself (R117, R123, R178, R179). -/

namespace Sys2Proof.Machine

section
variable {s t : State}

/-! ### The end of the scan -/

/-- The last step of the scan is at hand: nothing is under way. -/
structure State.ScanDone (s : State) : Prop where
  part   : s.watch.part = .starting
  slots  : s.SlotsStill
  unit   : s.engine.unit = none ∧ s.former.transform = none
  claims : s.journal.reserved = 0 ∧ s.float.reservations = [] ∧ s.journal.header = none
  queue  : s.journal.queue = [] ∧ s.journal.failedOnce = false
  op     : s.journal.op = .idle
  floats : ∀ w ∈ s.float.writes, w.done = .nothing
  writes : s.meters.writes = [] ∧ s.tariff.write = none ∧ s.clock.settingsWrite = none ∧ s.former.keyWrite = none

theorem State.ScanDone.quiet (h : s.ScanDone) (hstage : s.watch.scan.stage = .ended) : s.Quiet :=
  ⟨h.slots, h.unit, h.claims, h.queue.1, .inl h.op, h.floats, h.writes, hstage⟩

theorem State.ScanAlone.done (h : s.ScanAlone) (hs : s.watch.part = .starting) (hstage : s.watch.scan.stage = .ended) :
    s.ScanDone := by
  have hplaces : ¬ s.watch.scan.stage.places := by simp [hstage, ScanStage.places]
  have hop : s.journal.op = .idle := by
    rcases h.op.resolve_left hplaces with hop | ⟨rest, _, hst, -⟩ | ⟨rest, _, hst, -⟩
    · exact hop
    · cases hstage.symm.trans hst
    · cases hstage.symm.trans hst
  exact ⟨hs, h.slots, h.unit, h.claims, h.placing.resolve_left hplaces, hop, h.owners.2.1,
    h.writes.resolve_left (by simp [hstage, ScanStage.writes])⟩

/-- The scan has ended; in a pause it still runs alone. -/
theorem State.ScanDone.alone (h : s.ScanDone) (hstage : s.watch.scan.stage = .ended) : s.ScanAlone where
  slots := h.slots
  unit := h.unit
  claims := h.claims
  queue := by
    rw [h.queue.1]
    exact ⟨Nat.zero_le 1, nofun⟩
  placing := .inr h.queue
  op := .inr (.inl h.op)
  owners := by
    obtain ⟨h1, -, h3, h4⟩ := h.writes
    refine ⟨fun w hw => ?_, h.floats, fun w hw => ?_, fun g gen hw => ?_⟩
    · rw [h1] at hw
      cases hw
    · cases h3.symm.trans hw
    · cases h4.symm.trans hw
  writes := .inr h.writes
  frozen := .inl hstage

theorem State.Quiet.enterRun (h : s.Quiet) : s.enterRun.Quiet :=
  ⟨h.slots, h.unit, h.claims, h.queue, h.op, h.floats, h.writes, h.stage⟩

theorem State.ScanKeeps.watch (s : State) (w : Watch) : s.ScanKeeps { s with watch := w } := .of rfl rfl rfl rfl id

theorem State.scanFinish_scans (h : s.ScanDone) : s.ScansTo s.scanFinish := by
  have hkeeps : s.ScanKeeps s.judge :=
    ⟨fun _ => s.judge_channelEight, fun _ => rfl, fun _ => Journal.atHand_idle fun a n x ho => by cases h.op.symm.trans ho⟩
  have hended : ({ s.judge with watch := { s.judge.watch with scan := { s.judge.watch.scan with stage := .ended } } } : State).ScanDone :=
    ⟨h.part, h.slots, h.unit, h.claims, h.queue, h.op, h.floats, h.writes⟩
  unfold State.scanFinish
  dsimp only
  split
  · exact ⟨State.scans_of_alone h.part (hended.alone rfl), hkeeps.trans (.watch _ _)⟩
  · exact ⟨⟨nofun, fun _ => (hended.quiet rfl).enterRun⟩, hkeeps.trans (.watch _ _)⟩

/-- The part leaves STARTING when the warning clears. -/
theorem State.leaveStarting_scans (h : s.ScanAlone) (hs : s.watch.part = .starting) : s.ScansTo s.leaveStarting := by
  unfold State.leaveStarting
  split
  · next hended =>
    have hquiet : s.Quiet := (h.done hs hended.2).quiet hended.2
    exact ⟨⟨nofun, fun _ => hquiet.enterRun⟩, .watch _ _⟩
  · exact .refl (State.scans_of_alone hs h)

/-! ### FAILED mode in the scan -/

theorem foldl_failSlot_still (h : s.SlotsStill) (l : List SlotNo) : l.foldl State.failSlot s = s := by
  induction l with
  | nil => rfl
  | cons k l ih =>
    rw [List.foldl_cons, State.failSlot_idle (h k).1 (h k).2.1]
    exact ih

theorem Engine.failUnit_none {e : Engine} (h : e.unit = none) : e.failUnit = e := by
  unfold Engine.failUnit
  rw [h]

/-- In the scan FAILED mode ends nothing but the scan (R179). -/
theorem State.enterFailed_scans (h : s.ScanAlone) (hs : s.watch.part = .starting)
    (hplaces : s.watch.scan.stage.places) : s.ScansTo s.enterFailed := by
  have hunwritten : ¬ s.watch.scan.stage.writes := by
    rcases hplaces with hst | hst <;> simp [hst, ScanStage.writes]
  have hunit : s.engine.failUnit = s.engine := Engine.failUnit_none h.unit.1
  have hfolded : s.failedSlots = { s with journal := s.journal.fail } := by
    unfold State.failedSlots State.failStart
    rw [hunit]
    exact foldl_failSlot_still (s := { s with journal := s.journal.fail }) h.slots slotList
  have hdone : (({ s with journal := s.journal.fail } : State).setReserved 0).ScanDone :=
    ⟨hs, h.slots, h.unit, ⟨rfl, h.claims.2.1, h.claims.2.2⟩, ⟨rfl, rfl⟩, rfl, h.owners.2.1, h.writes.resolve_left hunwritten⟩
  have hkeeps : s.ScanKeeps (({ s with journal := s.journal.fail } : State).setReserved 0) :=
    .of rfl rfl rfl rfl fun _ => Journal.atHand_idle nofun
  rw [State.enterFailed_eq, hfolded]
  unfold State.afterTurns
  rw [if_pos (show (({ s with journal := s.journal.fail } : State).setReserved 0).watch.part = .starting from hs)]
  exact .after hkeeps (State.scanFinish_scans hdone)

/-! ### What the Journal begins -/

theorem State.headLook_scans (h : s.ScanAlone) (hs : s.watch.part = .starting) (hplaces : s.watch.scan.stage.places) :
    s.ScansTo s.headLook := by
  have hop {j : Journal} (hj : j.queue = s.journal.queue ∧ j.reserved = s.journal.reserved ∧ j.header = s.journal.header)
      (hat : s.journal.AtHand → j.AtHand) : s.ScansTo { s with journal := j } := by
    obtain ⟨hqueue, hreserved, hheader⟩ := hj
    refine ⟨State.scans_of_alone hs ⟨h.slots, h.unit, ?_, ?_, .inl hplaces, .inl hplaces, h.owners, h.writes, h.frozen⟩,
      .of rfl rfl rfl rfl hat⟩
    · rw [hreserved, hheader]
      exact h.claims
    · rw [hqueue]
      exact h.queue
  unfold State.headLook
  split
  · next a ha =>
    split
    · exact State.enterFailed_scans h hs hplaces
    · refine hop ⟨rfl, rfl, rfl⟩ fun _ b n x ho => ?_
      cases ho
      have hworn := Journal.slotAtHand_not_worn ha
      exact ⟨(Journal.slotAtHand_eq_some ha).1, rfl, hworn, Journal.slotAtHand_lt ha⟩
  · split
    · next p _ =>
      split
      · exact .refl (State.scans_of_alone hs h)
      · exact hop ⟨rfl, rfl, rfl⟩ fun _ => Journal.atHand_idle nofun
    · rw [if_pos hs]
      exact State.enterFailed_scans h hs hplaces

/-- The part has left STARTING with nothing under way: the Journal may begin a trigger erase. -/
theorem State.Quiet.journalLook (h : s.Quiet) (hs : s.watch.part ≠ .starting) : s.ScansTo s.journalLook := by
  have hstay : s.ScansTo s := .refl ⟨fun hn => absurd hn hs, fun _ => h⟩
  unfold State.journalLook
  split
  · rw [h.queue]
    dsimp only
    unfold State.triggerLook
    split
    · split
      · next p _ =>
        exact ⟨⟨fun hn => absurd hn hs, fun _ => ⟨h.slots, h.unit, h.claims, h.queue, .inr ⟨p, rfl⟩, h.floats, h.writes, h.stage⟩⟩,
          .of rfl rfl rfl rfl fun _ => Journal.atHand_idle nofun⟩
      · exact hstay
    · exact hstay
  · exact hstay

theorem State.journalLook_scans (h : s.Scans) : s.ScansTo s.journalLook := by
  by_cases hs : s.watch.part = .starting
  · have halone := h.alone hs
    unfold State.journalLook
    split
    · split
      · next e rest hqueue =>
        refine State.headLook_scans halone hs (halone.placing.resolve_right fun hnone => ?_)
        cases hqueue.symm.trans hnone.1
      · unfold State.triggerLook
        rw [if_neg fun hrun => PartState.noConfusion (hs.symm.trans hrun.1)]
        exact .refl h
    · exact .refl h
  · exact (h.2 hs).journalLook hs

theorem State.Quiet.engineLook (h : s.Quiet) : s.engineLook = s := by
  refine State.grants_of_none ?_ 8
  have hfind : (searchOrder s.engine.position).find? s.hasWork = none := by
    refine List.find?_eq_none.mpr fun k _ hwork => ?_
    obtain ⟨-, -, v, hv, -⟩ := (s.hasWork_iff k).mp hwork
    cases (h.slots k).1.symm.trans hv
  unfold State.grant?
  rw [hfind]
  split <;> rfl

theorem State.proceed_scans (h : s.Scans) : s.ScansTo s.proceed := by
  unfold State.proceed
  split
  · next hs =>
    have hadvance := State.scanAdvance_scans (h.alone hs) hs
    exact .after hadvance.2 (State.journalLook_scans hadvance.1)
  · next hs =>
    have hquiet : s.Quiet := h.2 (by rw [hs]; nofun)
    rw [hquiet.engineLook]
    exact State.journalLook_scans h
  · exact State.journalLook_scans h

/-- A change that keeps the scan alone, and then what the part does by itself. -/
theorem State.ScansTo.proceed (h : s.ScansTo t) : s.ScansTo t.proceed := .after h.2 (State.proceed_scans h.1)

theorem State.ScansTo.journalLook (h : s.ScansTo t) : s.ScansTo t.journalLook := .after h.2 (State.journalLook_scans h.1)

end

end Sys2Proof.Machine
end

section
/-! PROOFS. In STARTING every command but a reset keeps the scan alone, or ends it with nothing under way. -/

namespace Sys2Proof.Machine

section
variable {s t : State}

/-! ### Requests (R166) -/

/-- The port, the grant window, and of the slots nothing but what they answer; a slot may become IDLE. -/
structure State.StillTo (s t : State) : Prop where
  rest  : ∃ p w sl, t = { s with port := p, slots := sl, float := { s.float with windowOpen := w } }
  slots : ∀ k, (t.slot k).vend = (s.slot k).vend ∧ (t.slot k).admin = (s.slot k).admin ∧
    (t.slot k).pendingChange = (s.slot k).pendingChange ∧ (t.slot k).perms = (s.slot k).perms ∧
      ((t.slot k).state = (s.slot k).state ∨ (t.slot k).state = .idle)

theorem State.StillTo.scans (h : s.StillTo t) (hs : s.Scans) : s.ScansTo t := by
  obtain ⟨⟨p, w, sl, rfl⟩, hslots⟩ := h
  have hstill (h : s.SlotsStill) : ({ s with port := p, slots := sl, float := { s.float with windowOpen := w } } : State).SlotsStill := by
    intro k
    obtain ⟨h1, h2, h3, h4⟩ := h k
    obtain ⟨g1, g2, g3, -, g5⟩ := hslots k
    refine ⟨g1.trans h1, g2.trans h2, g3.trans h3, ?_⟩
    rcases g5 with g5 | g5
    · rw [g5]
      exact h4
    · exact .inl g5
  refine ⟨⟨fun hn => ?_, fun hn => ?_⟩, id, fun k => (hslots k).2.2.2.1, id⟩
  · have h := hs.1 hn
    exact ⟨hstill h.slots, h.unit, h.claims, h.queue, h.placing, h.op, h.owners, h.writes, h.frozen⟩
  · have h := hs.2 hn
    exact ⟨hstill h.slots, h.unit, h.claims, h.queue, h.op, h.floats, h.writes, h.stage⟩

theorem State.WireTo.still (h : s.WireTo t) : s.StillTo t := by
  refine ⟨⟨t.port, s.float.windowOpen, t.slots, h.rest⟩, fun k => ?_⟩
  rw [h.slots k]
  exact ⟨rfl, rfl, rfl, rfl, .inl rfl⟩

theorem State.WireTo.scans (h : s.WireTo t) (hs : s.Scans) : s.ScansTo t := h.still.scans hs

theorem State.WireTo.part (h : s.WireTo t) : t.watch.part = s.watch.part := by rw [h.rest]

/-- A request of work that fails a check of its own. -/
theorem State.still_refused (s : State) (w : Bool) (k : SlotNo) (i : Instr) (r : Reason) :
    s.StillTo (((s.setWindow w).accept k i).refuse k i r) := by
  have hmod (f : Slot → Slot) (hf : (f (s.slot k)).vend = (s.slot k).vend ∧ (f (s.slot k)).admin = (s.slot k).admin ∧
      (f (s.slot k)).pendingChange = (s.slot k).pendingChange ∧ (f (s.slot k)).perms = (s.slot k).perms ∧
      (f (s.slot k)).state = .idle) : s.StillTo ((s.setWindow w).modSlot k f) := by
    refine ⟨⟨s.port, w, _, rfl⟩, fun j => ?_⟩
    obtain ⟨h1, h2, h3, h4, h5⟩ := hf
    by_cases hj : j = k
    · subst hj
      rw [State.modSlot_slot_same]
      exact ⟨h1, h2, h3, h4, .inr h5⟩
    · rw [State.modSlot_slot_other _ f hj]
      exact ⟨rfl, rfl, rfl, rfl, .inl rfl⟩
  unfold State.refuse State.respond State.holdFrame State.accept
  dsimp only
  split
  · rw [State.modSlot_modSlot]
    exact hmod _ ⟨rfl, rfl, rfl, rfl, rfl⟩
  · rw [State.modSlot_modSlot, State.modSlot_modSlot]
    exact hmod _ ⟨rfl, rfl, rfl, rfl, rfl⟩

theorem State.take_scans (hs : s.Scans) (hpart : s.watch.part = .starting) (i : Instr) {run : State → SlotNo → State}
    (h : ∀ (u : State) k, u.watch.part = .starting → u.StillTo (run u k)) : s.ScansTo (s.take i run) := by
  rcases s.take_cases i run with hwire | ⟨u, k, hwire, -, hrun⟩
  · exact hwire.scans hs
  · rw [hrun]
    have hto := hwire.scans hs
    exact .after hto.2 ((h u k (hwire.part.trans hpart)).scans hto.1)

/-- In STARTING a table that checks the part state refuses. -/
theorem firstFailed_starting {l : List (Bool × Reason)} (hs : s.watch.part = .starting)
    (hl : (s.watch.part != .starting, Reason.starting) ∈ l) : firstFailed l ≠ none := by
  intro h
  have hpass := firstFailed_none_mem h hl
  rw [hs] at hpass
  cases hpass

theorem State.takeWork_scans (hs : s.Scans) (hpart : s.watch.part = .starting) (i : Instr)
    {c : State → SlotNo → List (Bool × Reason)} (p : State → SlotNo → State)
    (hc : ∀ (u : State) k, (u.watch.part != .starting, Reason.starting) ∈ c u k) : s.ScansTo (s.takeWork i c p) := by
  refine State.take_scans hs hpart i fun u k hu => ?_
  dsimp only
  split
  · exact u.still_refused u.float.windowOpen k i _
  · next hpass =>
    refine absurd hpass (firstFailed_starting (s := u.accept k i) ?_ (hc _ k))
    unfold State.accept
    split <;> exact hu

theorem mem_partChecks (u : State) (l : List (Bool × Reason)) : (u.watch.part != .starting, Reason.starting) ∈ u.partChecks ++ l :=
  List.mem_cons_self

theorem execVend_scans (hs : s.Scans) (hpart : s.watch.part = .starting) (h : Header) (b : VendBody) :
    s.ScansTo (s.take (.vend h b) (fun s k =>
      let s := s.accept k (.vend h b)
      match s.admission b with
      | .error r => s.refuse k (.vend h b) r
      | .ok (r, p) => (s.admitVend k b r p).proceed)) := by
  refine State.take_scans hs hpart _ fun u k hu => ?_
  dsimp only
  split
  · exact u.still_refused u.float.windowOpen k _ _
  · next hadmit =>
    obtain ⟨-, -, hrun, -⟩ := State.admission_eq_ok.mp hadmit
    exact absurd (hu.symm.trans hrun) nofun

end

end Sys2Proof.Machine
end

section
/-! PROOFS. In STARTING every command but a reset keeps the scan alone: the events, and the commands together. -/

namespace Sys2Proof.Machine

/-- An outcome is a next state in which the scan is alone still or has ended with nothing under way. -/
def ScansOut (s : State) (o : Out) : Prop := ∃ t, o = .next t ∧ s.ScansTo t

theorem ScansOut.next {s t : State} (h : s.ScansTo t) : ScansOut s (.next t) := ⟨t, rfl, h⟩

theorem ScansOut.wire {s : State} (hs : s.Scans) {o : Out} (h : ∃ t, o = .next t ∧ s.WireTo t) : ScansOut s o := by
  obtain ⟨t, ht, hwire⟩ := h
  exact ⟨t, ht, hwire.scans hs⟩

section
variable {s : State} (h : s.ScanAlone) (hs : s.watch.part = .starting)
include h hs

/-! ### What changes under a scan that goes on -/

theorem State.ScanAlone.stay : ScansOut s (.next s) := .next (.refl (State.scans_of_alone hs h))

/-- A write of a record ends, or the clock runs on. -/
theorem State.ScanAlone.records {t : State} (hr : s.Replays t) (hexpiry : t.float.work.expiry = s.float.work.expiry)
    (hnone : s.meters.writes = [] ∧ s.tariff.write = none ∧ s.clock.settingsWrite = none ∧ s.former.keyWrite = none →
      t.meters.writes = [] ∧ t.tariff.write = none ∧ t.clock.settingsWrite = none ∧ t.former.keyWrite = none) :
    s.ScansTo t := by
  have hstage : t.watch.scan.stage = s.watch.scan.stage := by rw [hr.watch]
  refine ⟨State.scans_of_alone ((congrArg Watch.part hr.watch).trans hs) ⟨fun k => ?_, ?_, ?_, ?_, ?_, ?_, hr.owners, ?_, ?_⟩, ?_⟩
  · rw [State.slot_of_slots_eq hr.slots k]
    exact h.slots k
  · rw [hr.engine, hr.transform]
    exact h.unit
  · rw [hr.journal, hr.float.1]
    exact h.claims
  · rw [hr.journal]
    exact h.queue
  · rw [hr.journal, hstage]
    exact h.placing
  · rw [hr.journal, hstage]
    exact h.op
  · rw [hstage]
    exact h.writes.imp_right hnone
  · rw [hr.float.2, hstage]
    exact h.frozen
  · refine .of hr.slots (by rw [hr.channels]) hr.float.2 hexpiry fun hat => ?_
    rw [hr.journal]
    exact hat

/-- The store's operation ends or another begins. -/
theorem State.ScanAlone.store {j : Journal} (n : Nat) (hqueue : j.queue = s.journal.queue)
    (hclaims : j.reserved = s.journal.reserved ∧ j.header = s.journal.header)
    (honce : s.watch.scan.stage.places ∨ j.failedOnce = s.journal.failedOnce)
    (hop : s.watch.scan.stage.places ∨ j.op = .idle ∨
      ∃ rest p, s.watch.scan.stage = .erasing rest ∧ (j.op = .erase p ∨ j.op = .wornMark p))
    (hprogram : ∀ a n x, j.op ≠ .program a n x) : s.ScansTo { s with journal := j, free := n } := by
  refine ⟨State.scans_of_alone hs ⟨h.slots, h.unit, ?_, ?_, ?_, ?_, h.owners, h.writes, h.frozen⟩,
    .of rfl rfl rfl rfl fun _ => Journal.atHand_idle hprogram⟩
  · rw [hclaims.1, hclaims.2]
    exact h.claims
  · rw [hqueue]
    exact h.queue
  · rw [hqueue]
    rcases honce with hplaces | honce
    · exact .inl hplaces
    · exact honce ▸ h.placing
  · exact hop.imp_right fun hop => hop.imp_right .inr

/-- The scan's stage alone changes, among those in which the queue is empty. -/
theorem State.ScanAlone.toStage {st : ScanStage} (hplaces : ¬ s.watch.scan.stage.places) (hop : s.journal.op = .idle)
    (hwrites : ¬ s.watch.scan.stage.writes) (hended : s.watch.scan.stage ≠ .ended) : s.ScansTo (s.setStage st) :=
  ⟨State.scans_of_alone hs ⟨h.slots, h.unit, h.claims, h.queue, .inr (h.placing.resolve_left hplaces), .inr (.inl hop), h.owners,
    .inr (h.writes.resolve_left hwrites), .inr (h.frozen.resolve_left hended)⟩, .of rfl rfl rfl rfl id⟩

omit h hs in
theorem State.overtake_none {k : SlotNo} (hvend : (s.slot k).vend = none) (r : Reason) : s.overtake k r = s := by
  unfold State.overtake
  rw [hvend]

omit h hs in
theorem State.Scans.returnToRun (h : s.Scans) : s.ScansTo s.returnToRun := by
  unfold State.returnToRun
  split
  · next hc =>
    have hquiet : s.Quiet := h.2 (hc.1 ▸ nofun)
    exact ⟨⟨nofun, fun _ => hquiet.enterRun⟩, .watch _ _⟩
  · exact .refl h

/-! ### The clock and the float -/

theorem execSecondTick_scans : ScansOut s (execSecondTick s) := by
  have htick : s.clock.tick.channels = s.clock.channels ∧ s.clock.tick.settingsWrite = s.clock.settingsWrite := by
    unfold Clock.tick
    split <;> exact ⟨rfl, rfl⟩
  have howners := h.owners
  rw [← htick.2] at howners
  refine .next (h.records hs ⟨rfl, rfl, rfl, rfl, rfl, ⟨rfl, rfl⟩, htick.1, howners⟩ rfl fun hnone => ?_)
  rw [← htick.2] at hnone
  exact hnone

theorem execLeaseExpiry_scans (k : SlotNo) : ScansOut s (execLeaseExpiry k s) := by
  refine .next ?_
  split
  · next hdue =>
    have hchannel : s.ScansTo (s.setChannel k none) :=
      ⟨State.scans_of_alone hs ⟨h.slots, h.unit, h.claims, h.queue, h.placing, h.op, h.owners, h.writes, h.frozen⟩,
        .of rfl (Clock.setChannel_other _ _ (Ne.symm hdue.1)) rfl rfl id⟩
    rw [State.overtake_none (s := s.setChannel k none) (h.slots k).1]
    exact hchannel.journalLook
  · exact .refl (State.scans_of_alone hs h)

theorem execFloatExpiry_scans : ScansOut s (execFloatExpiry s) := by
  refine .next ?_
  split
  · exact ⟨State.scans_of_alone hs ⟨h.slots, h.unit, h.claims, h.queue, h.placing, h.op, h.owners, h.writes, .inr rfl⟩,
      fun _ => Clock.setChannel_same _ _ _, fun _ => rfl, id⟩
  · exact .refl (State.scans_of_alone hs h)

/-! ### The store (R118, R124, R125, R173, R174) -/

omit hs in
theorem State.ScanAlone.promises {j : Journal} (hj : j.reserved = s.journal.reserved) : ¬ j.promisesTooMuch = true := by
  rw [Journal.promisesTooMuch_iff, hj, h.claims.1]
  exact Nat.not_lt_zero _

omit hs in
/-- What the store is doing names the stage. -/
theorem State.ScanAlone.places_of_program {a n x : Nat} (hop : s.journal.op = .program a n x) :
    s.watch.scan.stage.places := by
  rcases h.op with hplaces | hidle | ⟨_, _, -, hvoid⟩ | ⟨_, _, -, herase | hworn⟩
  · exact hplaces
  · cases hop.symm.trans hidle
  · cases hop.symm.trans hvoid
  · cases hop.symm.trans herase
  · cases hop.symm.trans hworn

theorem State.ScanAlone.commit {a n x : Nat} {e : QEntry} {rest : List QEntry} (hop : s.journal.op = .program a n x)
    (hqueue : s.journal.queue = e :: rest) : s.ScansTo (s.commit a n x e) := by
  have hplaces := h.places_of_program hop
  have hended : s.watch.scan.stage ≠ .ended := by
    intro hended
    rw [hended] at hplaces
    rcases hplaces with hplaces | hplaces <;> cases hplaces
  obtain ⟨hlength, hbodies⟩ := h.queue
  rw [hqueue] at hlength hbodies
  obtain ⟨hreserved, hbody⟩ := hbodies e List.mem_cons_self
  have hrest : rest = [] := List.length_eq_zero_iff.mp (Nat.le_zero.mp (Nat.le_of_succ_le_succ hlength))
  have hdrop : (s.journal.commit a n x e).queue = [] := by
    unfold Journal.commit
    dsimp only
    rw [hqueue, hrest]
    rfl
  have hzero : (s.journal.commit a n x e).reserved = 0 := by
    unfold Journal.commit
    dsimp only
    rw [hreserved]
    exact h.claims.1
  have hunwritten := h.writes.resolve_left fun hwrites => by
    rcases hplaces with hst | hst <;> simp [hst, ScanStage.writes] at hwrites
  have hkeeps : s.ScanKeeps { s with journal := s.journal.commit a n x e } :=
    .of rfl rfl rfl rfl fun _ => Journal.atHand_idle nofun
  unfold State.commit State.commitBody
  rcases hbody with ⟨d, hbody⟩ | ⟨kind, b, c, hbody⟩
  · simp only [hbody, if_pos hs]
    refine ⟨State.scans_of_alone hs ⟨h.slots, h.unit, ⟨hzero, h.claims.2⟩, ?_, .inl hplaces, .inl hplaces, ?_, .inr hunwritten, ?_⟩,
      .of_frozen rfl rfl (h.frozen.resolve_left hended) (h.frozen.resolve_left hended) fun _ => Journal.atHand_idle nofun⟩
    · change (s.journal.commit a n x e).queue.length ≤ 1 ∧ ∀ e' ∈ (s.journal.commit a n x e).queue, _
      rw [hdrop]
      exact ⟨Nat.zero_le 1, nofun⟩
    · obtain ⟨h1, h2, h3, h4⟩ := h.owners
      refine ⟨h1, fun w hw => ?_, h3, h4⟩
      rcases List.mem_append.mp hw with hw | hw
      · exact h2 w hw
      · rw [List.mem_singleton.mp hw]
    · exact .inr (h.frozen.resolve_left hended)
  · simp only [hbody]
    exact .after hkeeps (State.scanFinish_scans
      ⟨hs, h.slots, h.unit, ⟨hzero, h.claims.2⟩, ⟨hdrop, rfl⟩, rfl, h.owners.2.1, hunwritten⟩)

theorem execProgramCompletion_scans (v : Bool) : ScansOut s (execProgramCompletion v s) := by
  refine .next ?_
  have hstay := State.ScansTo.refl (State.scans_of_alone hs h)
  split
  · next a n x hop =>
    split
    · split
      · next e rest hqueue =>
        have hcommit := h.commit hs hop hqueue
        exact (State.ScansTo.after hcommit.2 (State.Scans.returnToRun hcommit.1)).proceed
      · exact hstay
    · have hplaces := h.places_of_program hop
      have hkept : ¬ ({ s.journal.put a .halfWritten with op := .idle } : Journal).promisesTooMuch = true := h.promises rfl
      rw [State.programFails_eq rfl, if_neg hkept]
      exact h.store hs s.free rfl ⟨rfl, rfl⟩ (.inr rfl) (.inl hplaces) nofun
  all_goals exact hstay

theorem execVoidMarkCompletion_scans : ScansOut s (execVoidMarkCompletion s) := by
  refine .next ?_
  have hstay := State.ScansTo.refl (State.scans_of_alone hs h)
  split
  · next a hop =>
    have hput : s.ScansTo { s with journal := { s.journal.put a .void with op := .idle } } :=
      h.store hs s.free rfl ⟨rfl, rfl⟩ (.inr rfl) (.inr (.inl rfl)) nofun
    have halone := hput.1.alone hs
    dsimp only
    split
    · next rest hst =>
      refine (State.ScansTo.after hput.2 (halone.toStage hs ?_ rfl ?_ ?_)).proceed
      · simp [hst, ScanStage.places]
      · simp [hst, ScanStage.writes]
      · exact hst ▸ nofun
    · next hvoiding =>
      have hplaces : s.watch.scan.stage.places := by
        rcases h.op with hplaces | hidle | ⟨rest, _, hst, -⟩ | ⟨_, _, -, herase | hworn⟩
        · exact hplaces
        · cases hop.symm.trans hidle
        · exact absurd hst (hvoiding rest)
        · cases hop.symm.trans herase
        · cases hop.symm.trans hworn
      unfold State.afterVoidMark
      split
      · exact hput
      · split
        · exact .after hput.2 (State.enterFailed_scans halone hs hplaces)
        · have honce : s.ScansTo { s with
              journal := { s.journal.put a .void with op := .idle, failedOnce := true } } :=
            h.store hs s.free rfl ⟨rfl, rfl⟩ (.inl hplaces) (.inl hplaces) nofun
          exact honce.journalLook
  all_goals exact hstay

theorem State.ScanAlone.nextErase (hop : s.journal.op = .idle) : s.ScansTo s.nextErase := by
  unfold State.nextErase
  split
  · next rest hst =>
    refine h.toStage hs ?_ hop ?_ (hst ▸ nofun)
    · simp [hst, ScanStage.places]
    · simp [hst, ScanStage.writes]
  · exact .refl (State.scans_of_alone hs h)

theorem execEraseCompletion_scans (v : Bool) : ScansOut s (execEraseCompletion v s) := by
  refine .next ?_
  have hstay := State.ScansTo.refl (State.scans_of_alone hs h)
  split
  · next p hop =>
    split
    · have hblank : s.ScansTo { s with journal := { s.journal.blankPage p with op := .idle } } :=
        h.store hs s.free rfl ⟨rfl, rfl⟩ (.inr rfl) (.inr (.inl rfl)) nofun
      exact (State.ScansTo.after hblank.2 ((hblank.1.alone hs).nextErase hs rfl)).proceed
    · refine h.store hs (s.free + 1) ?_ ⟨?_, ?_⟩ (.inr ?_) ?_ nofun
      iterate 4
        · rw [Journal.setPage_eq]
      · rcases h.op with hplaces | hidle | ⟨_, _, -, hvoid⟩ | ⟨rest, q, hst, -⟩
        · exact .inl hplaces
        · cases hop.symm.trans hidle
        · cases hop.symm.trans hvoid
        · exact .inr (.inr ⟨rest, p, hst, .inr rfl⟩)
  all_goals exact hstay

theorem execWornMarkWriteCompletion_scans : ScansOut s (execWornMarkWriteCompletion s) := by
  refine .next ?_
  have hstay := State.ScansTo.refl (State.scans_of_alone hs h)
  split
  · next p hop =>
    have hworn : s.ScansTo { s with journal := { s.journal.wearPage p with op := .idle } } :=
      h.store hs s.free rfl ⟨rfl, rfl⟩ (.inr rfl) (.inr (.inl rfl)) nofun
    dsimp only
    have hkept : ¬ ({ s.journal.wearPage p with op := .idle } : Journal).promisesTooMuch = true := h.promises rfl
    rw [if_neg hkept]
    exact (State.ScansTo.after hworn.2 ((hworn.1.alone hs).nextErase hs rfl)).proceed
  all_goals exact hstay

theorem execSettleHeaderWriteCompletion_scans : ScansOut s (execSettleHeaderWriteCompletion s) := by
  refine .next ?_
  rw [h.claims.2.2]
  exact .refl (State.scans_of_alone hs h)

/-! ### The records (R62, R86, R92, R165, R176) -/

theorem execTransformCompletion_scans : ScansOut s (execTransformCompletion s) := by
  refine .next ?_
  rw [h.unit.2]
  exact .refl (State.scans_of_alone hs h)

theorem execOpenRecordWriteCompletion_scans : ScansOut s (execOpenRecordWriteCompletion s) := by
  refine .next ?_
  split
  · next w rest hw =>
    rw [h.owners.1 w (hw ▸ List.mem_cons_self)]
    exact .refl (State.scans_of_alone hs h)
  · exact .refl (State.scans_of_alone hs h)

theorem execUnitRecordWriteCompletion_scans : ScansOut s (execUnitRecordWriteCompletion s) := by
  refine .next ?_
  rw [h.unit.1]
  split
  · next hunit =>
    cases hunit
  · exact .refl (State.scans_of_alone hs h)

theorem execMeterWriteCompletion_scans : ScansOut s (execMeterWriteCompletion s) := by
  refine .next ?_
  split
  · next w rest hw =>
    have howners := h.owners
    rw [h.owners.1 w (hw ▸ List.mem_cons_self)]
    dsimp only
    refine State.ScansTo.proceed (h.records hs ⟨rfl, rfl, rfl, rfl, rfl, ⟨rfl, rfl⟩, rfl, fun x hx => ?_, howners.2⟩ rfl fun hnone => ?_)
    · exact howners.1 x (List.mem_of_mem_drop hx)
    · cases hw.symm.trans hnone.1
  · exact .refl (State.scans_of_alone hs h)

theorem execFloatWriteCompletion_scans : ScansOut s (execFloatWriteCompletion s) := by
  refine .next ?_
  split
  · next w rest hw =>
    obtain ⟨h1, h2, h34⟩ := h.owners
    have hdone : (s.endFloatWrite w).floatResponse w = s.endFloatWrite w := by
      unfold State.floatResponse
      rw [h2 w (hw ▸ List.mem_cons_self)]
    rw [hdone]
    refine State.ScansTo.proceed (h.records hs ⟨rfl, rfl, rfl, rfl, rfl, ⟨rfl, rfl⟩, rfl, h1, fun x hx => h2 x (List.mem_of_mem_drop hx), h34⟩ rfl
      id)
  · exact .refl (State.scans_of_alone hs h)

omit hs in
theorem State.ScanAlone.not_writing : (s.slot 0).writing = false := by
  unfold Slot.writing
  rw [(h.slots 0).2.1]
  rfl

theorem execScheduleWriteCompletion_scans : ScansOut s (execScheduleWriteCompletion s) := by
  refine .next ?_
  split
  · next b n hw =>
    dsimp only
    rw [if_neg (by
      rw [Bool.not_eq_true]
      exact h.not_writing)]
    refine State.ScansTo.proceed (h.records hs ⟨rfl, rfl, rfl, rfl, rfl, ⟨rfl, rfl⟩, rfl, h.owners⟩ rfl
      fun hnone => ⟨hnone.1, rfl, hnone.2.2⟩)
  · exact .refl (State.scans_of_alone hs h)

theorem execStageWriteCompletion_scans : ScansOut s (execStageWriteCompletion s) := by
  refine .next ?_
  obtain ⟨h1, h2, h3, h4⟩ := h.owners
  split
  · next g gen hw => exact absurd hw (h4 g gen)
  · next g _ =>
    refine State.ScansTo.proceed (h.records hs ⟨rfl, rfl, rfl, rfl, rfl, ⟨rfl, rfl⟩, rfl, h1, h2, h3, nofun⟩ rfl
      fun hnone => ⟨hnone.1, hnone.2.1, hnone.2.2.1, rfl⟩)
  all_goals exact .refl (State.scans_of_alone hs h)

theorem execInstallWriteCompletion_scans : ScansOut s (execInstallWriteCompletion s) := by
  refine .next ?_
  obtain ⟨h1, h2, h3, -⟩ := h.owners
  split
  · next g n _ =>
    dsimp only
    rw [if_neg (by
      rw [Bool.not_eq_true]
      exact h.not_writing)]
    refine State.ScansTo.proceed (h.records hs ⟨rfl, rfl, rfl, rfl, rfl, ⟨rfl, rfl⟩, rfl, h1, h2, h3, nofun⟩ rfl
      fun hnone => ⟨hnone.1, hnone.2.1, hnone.2.2.1, rfl⟩)
  all_goals exact .refl (State.scans_of_alone hs h)

theorem execSettingsWriteCompletion_scans : ScansOut s (execSettingsWriteCompletion s) := by
  refine .next ?_
  obtain ⟨h1, h2, h3, h4⟩ := h.owners
  split
  · next w hw =>
    dsimp only
    rw [if_neg (by
      rw [h3 w hw]
      nofun)]
    refine State.ScansTo.proceed (h.records hs ⟨rfl, rfl, rfl, rfl, rfl, ⟨rfl, rfl⟩, rfl, h1, h2, nofun, h4⟩ rfl
      fun hnone => ⟨hnone.1, hnone.2.1, rfl, hnone.2.2.2⟩)
  · exact .refl (State.scans_of_alone hs h)

/-! ### Supply and the scan's begin (R172, R178, R180) -/

omit hs in
theorem State.ScanAlone.setWarning (w : Bool) : (s.setWarning w).ScanAlone ∧ s.ScanKeeps (s.setWarning w) :=
  ⟨⟨h.slots, h.unit, h.claims, h.queue, h.placing, h.op, h.owners, h.writes, h.frozen⟩, .watch _ _⟩

theorem execSupplyWarning_scans : ScansOut s (execSupplyWarning s) := by
  obtain ⟨halone, hkeeps⟩ := h.setWarning true
  have hpart : (s.setWarning true).watch.part = .starting := hs
  refine .next ?_
  dsimp only
  rw [hpart]
  exact ⟨State.scans_of_alone hpart halone, hkeeps⟩

theorem execWarningClear_scans : ScansOut s (execWarningClear s) := by
  obtain ⟨halone, hkeeps⟩ := h.setWarning false
  have hpart : (s.setWarning false).watch.part = .starting := hs
  refine .next ?_
  dsimp only
  rw [hpart]
  exact (State.ScansTo.after hkeeps (State.leaveStarting_scans halone hpart)).proceed

theorem execRecoveryScanBegin_scans : ScansOut s (execRecoveryScanBegin s) := by
  refine .next ?_
  split
  · next hbegin =>
    obtain ⟨-, -, hst⟩ := hbegin
    have halone : ({ s with watch := { s.watch with resetLine := false } } : State).ScanAlone :=
      ⟨h.slots, h.unit, h.claims, h.queue, h.placing, h.op, h.owners, h.writes, h.frozen⟩
    have hop : s.journal.op = .idle := h.idle (by rw [hst]; rfl) (fun _ => hst ▸ nofun) (fun _ => hst ▸ nofun)
    refine (State.ScansTo.after (.watch _ _) (halone.toStage hs ?_ hop ?_ (hst ▸ nofun))).proceed
    · simp [hst, ScanStage.places]
    · simp [hst, ScanStage.writes]
  · exact .refl (State.scans_of_alone hs h)

end

end Sys2Proof.Machine
end

section
/-! PROOFS. The scan runs alone, channel 8 follows the float state, and the Journal keeps its promises, over every step (R33,
R96, R110, R117, R119, R121, R131, R137, R154). -/

namespace Sys2Proof.Machine

section
variable {s t : State}

/-! ### Every command in STARTING -/

theorem execGrantOpen_scans (hs : s.Scans) (hpart : s.watch.part = .starting) (h : Header) (c d : BitVec 32) :
    ScansOut s (execGrantOpen h c d s) := by
  refine .next (State.take_scans hs hpart _ fun u k hu => ?_)
  split
  · exact (State.wire_answerRefused k _ _).still
  · next hpass =>
    exact absurd hpass (firstFailed_starting hu List.mem_cons_self)

theorem execGrant_scans (hs : s.Scans) (hpart : s.watch.part = .starting) (h : Header) (b : GrantBody) :
    ScansOut s (execGrant h b s) := by
  refine .next (State.take_scans hs hpart _ fun u k hu => ?_)
  dsimp only
  split
  · exact u.still_refused false k _ _
  · next hpass =>
    refine absurd hpass (firstFailed_starting (s := (u.setWindow false).accept k (.grant h b)) hu ?_)
    exact List.mem_append_left _ (List.mem_append_left _ (List.mem_append_right _ List.mem_cons_self))

theorem execContinueVend_scans (hs : s.Scans) (hpart : s.watch.part = .starting) (h : Header) (n : Nat) :
    ScansOut s (execContinueVend h n s) := by
  refine .next (State.take_scans hs hpart _ fun u k hu => ?_)
  split
  · exact (State.wire_answerRefused k _ _).still
  · next hpass =>
    exact absurd hpass (firstFailed_starting hu (mem_partChecks u _))

theorem execAbandon_scans (hs : s.Scans) (hpart : s.watch.part = .starting) (h : Header) (n : Nat) :
    ScansOut s (execAbandon h n s) := by
  refine .next (State.take_scans hs hpart _ fun u k hu => ?_)
  split
  · exact (State.wire_answerRefused k _ _).still
  · next hpass =>
    exact absurd hpass (firstFailed_starting hu (mem_partChecks u _))

/-- In STARTING every command but a reset keeps the scan alone, or ends it with nothing under way. -/
theorem exec_scansOut (h : s.ScanAlone) (hs : s.watch.part = .starting) {i : Instr} (hi : resets i = false) :
    ScansOut s (exec i s) := by
  have hscans := State.scans_of_alone hs h
  have hwork {i : Instr} {c : State → SlotNo → List (Bool × Reason)} {p : State → SlotNo → State}
      (hc : ∀ (u : State) k, (u.watch.part != .starting, Reason.starting) ∈ c u k) : ScansOut s (.next (s.takeWork i c p)) :=
    .next (State.takeWork_scans hscans hs i p hc)
  cases i with
  | warmReset | supplyLoss | coldStart => cases hi
  | status | meterQuery | floatQuery | reprint | journalRead =>
    exact .next ((State.wire_takeQuery _ _ _ _).scans hscans)
  | vend h b => exact .next (execVend_scans hscans hs h b)
  | continueVend h n => exact execContinueVend_scans hscans hs h n
  | abandon h n => exact execAbandon_scans hscans hs h n
  | grantOpen h c d => exact execGrantOpen_scans hscans hs h c d
  | grant h b => exact execGrant_scans hscans hs h b
  | shiftClose | settle => exact hwork fun u _ => mem_partChecks u _
  | bind | unbind | meterHold | enrol | retire | meterUpdate | tariffLoad | keyLoad | clockSet =>
    exact hwork fun u _ => List.mem_append_left _ (mem_partChecks u _)
  | writeAddressByte b => exact .wire hscans (wire_execWriteAddressByte b)
  | dataByte b => exact .wire hscans (wire_execDataByte b)
  | emptyWrite => exact .wire hscans (wire_execEmptyWrite)
  | badFrame => exact .wire hscans (wire_execBadFrame)
  | readTransaction b => exact .wire hscans (wire_execReadTransaction b)
  | supplyWarning => exact execSupplyWarning_scans h hs
  | warningClear => exact execWarningClear_scans h hs
  | recoveryScanBegin => exact execRecoveryScanBegin_scans h hs
  | secondTick => exact execSecondTick_scans h hs
  | leaseExpiry k => exact execLeaseExpiry_scans h hs k
  | floatExpiry => exact execFloatExpiry_scans h hs
  | transformCompletion => exact execTransformCompletion_scans h hs
  | programCompletion v => exact execProgramCompletion_scans h hs v
  | voidMarkCompletion => exact execVoidMarkCompletion_scans h hs
  | eraseCompletion v => exact execEraseCompletion_scans h hs v
  | wornMarkWriteCompletion => exact execWornMarkWriteCompletion_scans h hs
  | openRecordWriteCompletion => exact execOpenRecordWriteCompletion_scans h hs
  | unitRecordWriteCompletion => exact execUnitRecordWriteCompletion_scans h hs
  | meterWriteCompletion => exact execMeterWriteCompletion_scans h hs
  | floatWriteCompletion => exact execFloatWriteCompletion_scans h hs
  | scheduleWriteCompletion => exact execScheduleWriteCompletion_scans h hs
  | stageWriteCompletion => exact execStageWriteCompletion_scans h hs
  | installWriteCompletion => exact execInstallWriteCompletion_scans h hs
  | settingsWriteCompletion => exact execSettingsWriteCompletion_scans h hs
  | settleHeaderWriteCompletion => exact execSettleHeaderWriteCompletion_scans h hs
  | addressByteForAnotherAddress b => exact .wire hscans (wire_execAddressByteForAnotherAddress b)
  | acknowledgeFromMaster a => exact .wire hscans (wire_execAcknowledgeFromMaster a)
  | readEnd => exact .wire hscans (wire_execReadEnd)
  -- RECALL is left.
  | _ => exact hwork fun u _ => List.mem_append_left _ (List.mem_append_left _ (mem_partChecks u _))

theorem exec_scans (h : s.ScanAlone) (hs : s.watch.part = .starting) {i : Instr} (hi : resets i = false)
    (hexec : exec i s = .next t) : s.ScansTo t := by
  obtain ⟨u, hu, hto⟩ := exec_scansOut h hs hi
  cases hexec.symm.trans hu
  exact hto

/-! ### Resets -/

/-- What a reset has left when the scan has yet to begin (R33, R93, R105, R119, R135, R154). -/
structure State.IsReset (s : State) : Prop where
  part     : s.watch.part = .starting
  alone    : s.ScanAlone
  eight    : s.ChannelEight
  slots    : s.slots = Slot.table
  journal  : s.journal.op = .idle ∧ s.journal.reserved = 0 ∧ s.journal.queue = []

theorem State.isReset_resetTo (s : State) (straps : Fin 4) {clock : Clock} {watch : Watch} (hpart : watch.part = .starting)
    (hchannels : clock.channels = Vector.replicate 8 none)
    (hwrite : clock.settingsWrite = none) : (s.resetTo straps clock watch).IsReset := by
  refine ⟨hpart, ⟨reset_scanAlone.slots, ⟨rfl, rfl⟩, ⟨rfl, rfl, rfl⟩, ⟨Nat.zero_le 1, nofun⟩, .inr ⟨rfl, rfl⟩, .inr (.inl rfl), ?_,
    .inr ⟨rfl, rfl, hwrite, rfl⟩, .inr rfl⟩, ?_, rfl, ⟨rfl, rfl, rfl⟩⟩
  · refine ⟨nofun, nofun, fun w hw => ?_, nofun⟩
    cases hwrite.symm.trans hw
  · change clock.channels[(0 : Fin 8)] = none
    rw [hchannels]
    rfl

/-- A reset does nothing, or begins the part anew. -/
theorem exec_reset {i : Instr} (hi : resets i = true) (h : exec i s = .next t) : t = s ∨ t.IsReset := by
  have hunchanged {o : Out} (ho : exec i s = o) (hs : o = .next s) : t = s := by
    cases (h.symm.trans ho).trans hs
    rfl
  cases i with
  | warmReset straps =>
    change execWarmReset straps s = _ at h
    by_cases hsupply : s.watch.supply = true
    · rw [execWarmReset_of straps hsupply] at h
      cases h
      exact .inr (State.isReset_resetTo _ _ rfl rfl rfl)
    · unfold execWarmReset at h
      rw [if_neg hsupply] at h
      cases h
      exact .inl rfl
  | supplyLoss =>
    change execSupplyLoss s = _ at h
    by_cases hsupply : s.watch.supply = true
    · rw [execSupplyLoss_of hsupply] at h
      cases h
      exact .inr (State.isReset_resetTo _ _ rfl rfl rfl)
    · unfold execSupplyLoss at h
      rw [if_neg hsupply] at h
      cases h
      exact .inl rfl
  | coldStart straps =>
    change execColdStart straps s = _ at h
    by_cases hsupply : s.watch.supply = true
    · unfold execColdStart at h
      rw [if_pos hsupply] at h
      cases h
      exact .inl rfl
    · rw [execColdStart_of straps (by rw [← Bool.not_eq_true]; exact hsupply)] at h
      cases h
      exact .inr (State.isReset_resetTo _ _ rfl rfl rfl)
  | _ => cases hi

/-! ### One command from any state -/

/-- A step does nothing but take a command, or the command begins the part anew; or in STARTING the scan goes on; or elsewhere
it is a chain of moves. -/
theorem exec_cases (hs : s.StartingAlone) {i : Instr} (h : exec i s = .next t) :
    t = s ∨ t.IsReset ∨ (s.watch.part = .starting ∧ s.ScanAlone ∧ s.ScansTo t) ∨
      s.watch.part ≠ .starting ∧ resets i = false := by
  cases hi : resets i with
  | true => exact (exec_reset hi h).imp_right .inl
  | false =>
    by_cases hpart : s.watch.part = .starting
    · exact .inr (.inr (.inl ⟨hpart, hs hpart, exec_scans (hs hpart) hpart hi h⟩))
    · exact .inr (.inr (.inr ⟨hpart, rfl⟩))

/-- A property that does not look at the commands that wait is kept by a step when every command keeps it. -/
theorem step_keeps_of_exec {P : State → Prop} (hpending : ∀ s rest, P s → P { s with pending := rest })
    (hexec : ∀ (s t : State) i, P s → exec i s = .next t → P t) (hs : P s) (h : step s = .next t) : P t := by
  cases hp : s.pending with
  | nil =>
    rw [step_of_empty hp] at h
    cases h
    exact hs
  | cons c rest =>
    rw [step_of_cons hp] at h
    exact hexec _ t c (hpending s rest hs) h

/-! ### The scan runs alone -/

theorem State.StartingAlone.pending (h : s.StartingAlone) (rest : List Instr) : ({ s with pending := rest } : State).StartingAlone :=
  fun hpart =>
    have h := h hpart
    ⟨h.slots, h.unit, h.claims, h.queue, h.placing, h.op, h.owners, h.writes, h.frozen⟩

theorem exec_startingAlone (hs : s.StartingAlone) {i : Instr} (h : exec i s = .next t) : t.StartingAlone := by
  rcases exec_cases hs h with rfl | hreset | ⟨-, -, hscans⟩ | ⟨hrun, hi⟩
  · exact hs
  · exact fun _ => hreset.alone
  · exact hscans.1.1
  · exact fun hpart => absurd hpart ((exec_moves hrun hi h).running hrun)

/-- Settles O5. -/
theorem scanRunsAlone : Obligations.ScanRunsAlone := fun _ _ hs h =>
  step_keeps_of_exec (fun _ rest hs => hs.pending rest) (fun _ _ _ hs h => exec_startingAlone hs h) hs h

/-! ### Channel 8 -/

/-- With no work under way slot 0's admin operation is no matter. -/
theorem State.SlotZeroAdmin.of_still (h : s.SlotsStill) (hperms : holdsItem (s.slot 0).perms .vend = false)
    (hqueue : ∀ e ∈ s.journal.queue, ∀ b, e.body ≠ .bind b) : s.SlotZeroAdmin where
  vend := (h 0).1
  noVend := hperms
  binds e he b hb := absurd hb (hqueue e he b)
  staging b w ha := by cases (h 0).2.1.symm.trans ha

theorem State.ScanAlone.no_bind (h : s.ScanAlone) : ∀ e ∈ s.journal.queue, ∀ b, e.body ≠ .bind b := by
  intro e he b hb
  rcases (h.queue.2 e he).2 with ⟨d, hbody⟩ | ⟨kind, x, y, hbody⟩ <;> cases hbody.symm.trans hb

theorem State.Scans.slotZeroAdmin (h : s.Scans) (hperms : holdsItem (s.slot 0).perms .vend = false) : s.SlotZeroAdmin := by
  by_cases hpart : s.watch.part = .starting
  · have halone := h.alone hpart
    exact .of_still halone.still hperms halone.no_bind
  · have hquiet := h.2 hpart
    refine .of_still hquiet.slots hperms fun e he => ?_
    rw [hquiet.queue] at he
    cases he

theorem State.IsReset.slotZeroAdmin (h : s.IsReset) : s.SlotZeroAdmin := by
  refine .of_still h.alone.still ?_ h.alone.no_bind
  rw [State.slot_of_slots_eq (s := State.reset) h.slots]
  decide

/-- What the statement on channel 8 keeps. -/
structure State.EightKept (s : State) : Prop where
  alone : s.StartingAlone
  zero  : s.SlotZeroAdmin
  eight : s.ChannelEight

theorem exec_eightKept (hs : s.EightKept) {i : Instr} (h : exec i s = .next t) : t.EightKept := by
  suffices hkept : t.SlotZeroAdmin ∧ t.ChannelEight from ⟨exec_startingAlone hs.alone h, hkept.1, hkept.2⟩
  rcases exec_cases hs.alone h with rfl | hreset | ⟨-, -, hscans⟩ | ⟨hrun, hi⟩
  · exact ⟨hs.zero, hs.eight⟩
  · exact ⟨hreset.slotZeroAdmin, hreset.eight⟩
  · refine ⟨hscans.1.slotZeroAdmin ?_, hscans.2.eight hs.eight⟩
    rw [hscans.2.perms]
    exact hs.zero.noVend
  · exact exec_slotZero_running hrun hi h hs.zero hs.eight

/-- Settles O6. -/
theorem stepKeepsChannelEight : Obligations.StepKeepsChannelEight := by
  intro s t halone hzero height h
  have hkept : t.EightKept := step_keeps_of_exec (P := State.EightKept)
    (fun s rest hs => ⟨hs.alone.pending rest, ⟨hs.zero.vend, hs.zero.noVend, hs.zero.binds, hs.zero.staging⟩, hs.eight⟩)
    (fun _ _ _ hs h => exec_eightKept hs h) ⟨halone, hzero, height⟩ h
  exact ⟨hkept.zero, hkept.eight⟩

/-! ### The Journal's promises -/

theorem State.Scans.promises (h : s.Scans) (hat : s.journal.AtHand) : s.PromisesKept := by
  by_cases hpart : s.watch.part = .starting
  · refine ⟨hat, absurd hpart, absurd hpart, fun _ => ?_⟩
    rw [(h.alone hpart).claims.1]
    exact Nat.zero_le _
  · have hquiet := h.2 hpart
    refine ⟨hat, fun _ e he => ?_, fun _ a ha => ?_, fun _ => ?_⟩
    · rw [hquiet.queue] at he
      cases he
    · rcases hquiet.op with hop | ⟨p, hop⟩ <;> cases hop.symm.trans ha
    · rw [hquiet.claims.1]
      exact Nat.zero_le _

theorem State.IsReset.promises (h : s.IsReset) : s.PromisesKept :=
  (State.scans_of_alone h.part h.alone).promises (Journal.atHand_idle fun a n x ho => by cases h.journal.1.symm.trans ho)

/-- What the statement on the promises keeps. -/
structure State.ReservesKept (s : State) : Prop where
  canonical : s.Canonical
  alone     : s.StartingAlone
  settle    : s.watch.part ≠ .starting → s.SettleOrdered
  promises  : s.PromisesKept

theorem exec_promises (hs : s.ReservesKept) {i : Instr} (h : exec i s = .next t) : t.PromisesKept := by
  rcases exec_cases hs.alone h with rfl | hreset | ⟨-, -, hscans⟩ | ⟨hrun, hi⟩
  · exact hs.promises
  · exact hreset.promises
  · exact hscans.1.promises (hscans.2.atHand hs.promises.atHand)
  · exact (exec_promises_running hrun hi h (hs.settle hrun) (hs.promises.kept hrun hs.canonical.1)).promises

theorem step_settleOrdered (hs : s.watch.part ≠ .starting) (hsettle : s.SettleOrdered) (h : step s = .next t)
    (ht : t.watch.part ≠ .starting) : t.SettleOrdered := by
  cases hp : s.pending with
  | nil =>
    rw [step_of_empty hp] at h
    cases h
    exact hsettle
  | cons c rest =>
    rw [step_of_cons hp] at h
    have hsettle' : ({ s with pending := rest } : State).SettleOrdered := ⟨hsettle.mark, hsettle.header, hsettle.program, hsettle.vends⟩
    cases hi : resets c with
    | true =>
      rcases exec_reset hi h with rfl | hreset
      · exact hsettle'
      · exact absurd hreset.part ht
    | false => exact exec_settleOrdered (s := { s with pending := rest }) hs hi h hsettle'

/-- Settles O7. -/
theorem stepKeepsReservedWithinObtainable : Obligations.StepKeepsReservedWithinObtainable := by
  refine ⟨fun s t hcanonical halone hsettle hpromises h => ?_, fun s t hs hsettle h ht => step_settleOrdered hs hsettle h ht⟩
  cases hp : s.pending with
  | nil =>
    rw [step_of_empty hp] at h
    cases h
    exact hpromises
  | cons c rest =>
    rw [step_of_cons hp] at h
    refine exec_promises (s := { s with pending := rest }) ⟨hcanonical, halone.pending rest, fun hrun => ?_, ?_⟩ h
    · obtain ⟨h1, h2, h3, h4⟩ := hsettle hrun
      exact ⟨h1, h2, h3, h4⟩
    · exact ⟨hpromises.atHand, hpromises.reserves, hpromises.marking, hpromises.reserved⟩

end

end Sys2Proof.Machine
end

section
/-! PROOFS. Coherence is not kept by every step: it does not say that the vend of a slot with an UNBIND pending has a pending
ending (R26, R147). A part in which it has none is coherent, and enters HELD with its fourth token (R17, R18), which a slot
with an UNBIND pending may not be in. -/

namespace Sys2Proof.Machine

/-- A vend in ISSUING with three of its five tokens issued, the fourth applied, and no pending ending. -/
def heedlessVend : Vend where
  receipt := 0
  number := some 1
  meter := 1
  group := 0
  schedule := 0
  plan := { tender := 0, fixed := 0, arrears := 0, change := 0, retained := 0, tenths := 500, value := 0, month := 0,
            rolled := false, units := List.replicate 5 ⟨.free, 100, 0⟩ }
  phase := .issuing
  openQueued := true
  issued := 3
  batch := List.replicate 3 ⟨0, .free, 1, 2⟩
  share := 2
  pendingEnding := none
  ending := none

/-- The part as delivered, in RUN, with the unit of slot 1 in APPLYING and the completion of its record write at hand. -/
def applyingPart : State :=
  { State.reset with
    pending := [.unitRecordWriteCompletion]
    watch := { State.reset.watch with part := .run, scan := ⟨.ended, 0, 0⟩ }
    engine := ⟨1, some ⟨1, 3, 4, .applying, false⟩⟩
    meters := ⟨[], [⟨.unit ⟨0, .free, 4, 5⟩, 1, .token .free 4 100 0, 5⟩]⟩
    journal := { State.reset.journal with op := .erase 0 } }

/-- Slot 1 has the vend and is marked by the UNBIND of slot 2, which waits for it. -/
def heedlessPart : State :=
  (applyingPart.modSlot 1 (fun sl => { sl with
      state := .working, vend := some heedlessVend, pendingChange := some (.unbindBy 2) })).modSlot 2
    (fun sl => { sl with state := .working, admin := some ⟨some (.unbind 1), .waiting⟩ })

theorem heedless_other {k : SlotNo} (h1 : k ≠ 1) (h2 : k ≠ 2) : heedlessPart.slot k = State.reset.slot k := by
  unfold heedlessPart
  rw [State.modSlot_slot_other _ _ h2, State.modSlot_slot_other _ _ h1]
  rfl

/-- The slots but 1 and 2 have nothing under way. -/
theorem heedless_still {k : SlotNo} (h1 : k ≠ 1) (h2 : k ≠ 2) :
    (heedlessPart.slot k).vend = none ∧ (heedlessPart.slot k).admin = none ∧ (heedlessPart.slot k).pendingChange = none ∧
      ((heedlessPart.slot k).state = .idle ∨ (heedlessPart.slot k).state = .unbound) := by
  rw [heedless_other h1 h2]
  exact reset_scanAlone.slots k

theorem heedless_unitOf {k : SlotNo} (h1 : k ≠ 1) : heedlessPart.engine.unitOf k = none := by
  unfold Engine.unitOf
  refine Option.filter_eq_none_iff.mpr fun u hu => ?_
  cases hu
  simp [Ne.symm h1]

theorem heedless_vends (k : SlotNo) (v : Vend) (hv : (heedlessPart.slot k).vend = some v) : heedlessPart.VendCoherent k v := by
  by_cases h1 : k = 1
  · subst h1
    cases hv
    exact ⟨nofun, rfl, .inl rfl, nofun, fun _ => nofun, fun _ => ⟨rfl, rfl, nofun⟩, nofun, nofun, Nat.le_refl 0⟩
  · by_cases h2 : k = 2
    · subst h2
      cases hv
    · cases (heedless_still h1 h2).1.symm.trans hv

theorem heedless_admins (k : SlotNo) (hv : (heedlessPart.slot k).vend = none) : heedlessPart.AdminCoherent k := by
  have h1 : k ≠ 1 := by
    rintro rfl
    cases hv
  refine ⟨heedless_unitOf h1, .inr rfl, fun ha => ⟨rfl, ?_⟩, fun a ha => ?_⟩
  · by_cases h2 : k = 2
    · subst h2
      cases ha
    · exact (heedless_still h1 h2).2.2.2.imp_right .inl
  · by_cases h2 : k = 2
    · subst h2
      cases ha
      exact ⟨rfl, ⟨nofun, rfl, .inl nofun⟩, nofun, rfl, .inr rfl⟩
    · cases (heedless_still h1 h2).2.1.symm.trans ha

theorem heedless_pending (k : SlotNo) : heedlessPart.PendingCoherent k := by
  by_cases h1 : k = 1
  · subst h1
    exact ⟨rfl, .inr ⟨rfl, nofun⟩⟩
  · unfold State.PendingCoherent
    by_cases h2 : k = 2
    · subst h2
      exact trivial
    · rw [(heedless_still h1 h2).2.2.1]
      trivial

theorem heedless_quiet (k : SlotNo) (hk : (heedlessPart.slot k).state = .idle ∨ (heedlessPart.slot k).state = .unbound) :
    (heedlessPart.slot k).vend = none ∧ (heedlessPart.slot k).admin = none := by
  have h1 : k ≠ 1 := by
    rintro rfl
    rcases hk with hk | hk <;> cases hk
  have h2 : k ≠ 2 := by
    rintro rfl
    rcases hk with hk | hk <;> cases hk
  obtain ⟨hv, ha, -⟩ := heedless_still h1 h2
  exact ⟨hv, ha⟩

theorem heedless_owed (k : SlotNo) : heedlessPart.answersOwed k = (heedlessPart.slot k).writing.toNat := by
  have howed : heedlessPart.answersOwed k = 0 := by
    unfold State.answersOwed
    split <;> rfl
  have hwriting : (heedlessPart.slot k).writing = false := by
    by_cases h1 : k = 1
    · subst h1
      rfl
    · by_cases h2 : k = 2
      · subst h2
        rfl
      · unfold Slot.writing
        rw [(heedless_still h1 h2).2.1]
        rfl
  rw [howed, hwriting]
  rfl

theorem heedless_permissions : holdsItem (heedlessPart.slot 0).perms .vend = false ∧
    ∀ k : SlotNo, k ≠ 0 → holdsItem (heedlessPart.slot k).perms .settlement = false := by
  refine ⟨by decide, fun k hk => ?_⟩
  by_cases h1 : k = 1
  · subst h1
    decide
  · by_cases h2 : k = 2
    · subst h2
      decide
    · rw [heedless_other h1 h2, reset_slot_desk hk]
      decide

/-- The part is coherent. -/
theorem heedless_coherent : heedlessPart.Coherent where
  starting := nofun
  run _ := ⟨heedless_vends, heedless_admins, heedless_pending, heedless_quiet, heedless_owed, fun h => absurd rfl h, nofun,
    ⟨nofun, nofun, rfl, rfl⟩, nofun, nofun, ⟨⟨heedlessVend, rfl, rfl⟩, rfl, rfl, rfl, rfl⟩⟩
  permissions := heedless_permissions
  floatLaw := Nat.zero_le _

/-- With its fourth token slot 1 is HELD, its UNBIND pending still. -/
theorem heedless_step : ∃ t, step heedlessPart = .next t ∧ (t.slot 1).state = .held ∧
    (t.slot 1).pendingChange = some (.unbindBy 2) ∧ t.watch.part ≠ .starting := by
  refine ⟨_, rfl, rfl, rfl, nofun⟩

/-- Refutes O8: coherence does not say that a vend with an UNBIND pending has been overtaken. -/
theorem not_stepKeepsCoherence : ¬ Obligations.StepKeepsCoherence := by
  intro h
  obtain ⟨t, hstep, hheld, hmark, hrun⟩ := heedless_step
  have hpending := ((h.1 _ _ heedless_coherent hstep).run hrun).pending 1
  unfold State.PendingCoherent at hpending
  rw [hmark, hheld] at hpending
  cases hpending.1

end Sys2Proof.Machine
end
